-- ==== Sys2Proof/Word.lean ====
section
/-! DEFINITION. The word that crosses a port (spec R173): 16 bits, numbered with bit 15 the most
significant. -/

namespace Sys2Proof

/-- One word on a port, in either direction (R173). -/
abbrev Word := BitVec 16

end Sys2Proof
end

