-- ==== Sys2Proof/Syntax.lean ====
section
/-! DEFINITION. The events and commands of the part: one constructor of `Instr` for each row of
spec/opcode_table.json, with the row's operands. A whole-transfer row carries the port that sends it
and the arguments R208 lists. -/

namespace Sys2Proof

/-- The three client ports. -/
inductive Port where
  | a | b | c
  deriving DecidableEq, Repr

/-- A pane number, 0-15 (R15). -/
abbrev PaneId := Fin 16

/-- A glyph number, 0-511 (R1). -/
abbrev Code := Fin 512

/-- A palette index, 0-15 (R129). -/
abbrev Index := Fin 16

/-- The seven attribute fields of a cell (R1). -/
structure Attr where
  fg : Index
  bg : Index
  blink : Bool
  underline : Bool
  inverse : Bool
  conceal : Bool
  guarded : Bool
  deriving DecidableEq, Repr

/-- The attribute fields a TINT selects (R7, R102). -/
structure AttrMask where
  fg : Bool
  bg : Bool
  blink : Bool
  underline : Bool
  inverse : Bool
  conceal : Bool
  guarded : Bool
  deriving DecidableEq, Repr

/-- A stage colour of the tick ramp (R132). -/
inductive StageColour where
  | keep
  | index (i : Index)
  deriving DecidableEq, Repr

/-- The contents of the eight row-pair words that carry a bitmap across a port (R115, R210). -/
abbrev RowPairs := Vector (BitVec 15) 8

/-- The arguments of DEFINE (R20, R208). `underline` is the underline field as carried: 0-15 a scan
row, 31 none, 16-30 refused. -/
structure Geometry where
  originCol : Nat
  originRow : Nat
  width : Nat
  height : Nat
  base : Nat
  pitch : Nat
  ringLines : Nat
  frozen : Nat
  underline : Nat
  fillCode : Code
  fillAttr : Attr
  pinned : Bool
  deriving DecidableEq, Repr

/-- Which of two actions of a frame start that may come in either order comes first (R78). -/
inductive LatchOrder where
  | latchFirst
  | ageFirst
  deriving DecidableEq, Repr

/-- The commands the drawing engine carries out, each with the arguments R208 lists. -/
inductive Command where
  | define (p : PaneId) (g : Geometry)
  | showPane (p : PaneId)
  | hidePane (p : PaneId)
  | dropPane (p : PaneId)
  | claim (p : PaneId)
  | release (p : PaneId)
  | raise (p : PaneId)
  | lower (p : PaneId)
  | behind (p q : PaneId)
  | setTop (p : PaneId) (top fine : Nat)
  | roll (p : PaneId) (k : Int) (clear : Bool)
  | log (p : PaneId) (attr : Attr) (codes : List Code)
  | place (p : PaneId) (row col : Nat) (attr : Attr) (codes : List Code)
  | sweep (p : PaneId) (row col w h : Nat) (code : Code) (attr : Attr) (override : Bool)
  | shift (p : PaneId) (srow scol drow dcol w h : Nat)
  | tint (p : PaneId) (row col w h : Nat) (attr : Attr) (mask : AttrMask)
  | tick (p : PaneId) (row col : Nat) (codes : List Code) (digit arrow : Bool)
  | readCells (p : PaneId) (row col n : Nat)
  | wait
  | glyph (code : Code) (rows : RowPairs)
  | patch (slot : Fin 16) (code : Code) (rows : RowPairs)
  | patchRows (slot : Fin 16) (rows : RowPairs)
  | patchCode (slot : Fin 16) (code : Code)
  | unpatch (slot : Fin 16)
  | readGlyph (slotOption : Bool) (slot : Fin 16) (code : Code)
  | palette (i : Index) (r g b : Nat)
  | ramp (dir : Fin 4) (stage : Fin 16) (fg bg : StageColour) (duration count : Nat)
  | staleColour (i : Index)
  | blink (period : Nat)
  | cursor (p : PaneId) (row col : Nat) (startScan endScan : Nat) (mode : Fin 4)
  | timing (preset : Fin 4) (height : Nat)
  | lock
  deriving DecidableEq, Repr

/-- The rows of spec/opcode_table.json. Operand `x` is the port of a row that concerns one port.
`define` to `lock` and `fetch` to `ident` are whole transfers sent on port `x` (log 1). `markStageExpiry` and
`blinkToggle` name a frame start by what comes about at it (log 6). -/
inductive Instr where
  | powerOnReset (osel tsel : Fin 4)
  | planeClearComplete (order : LatchOrder)
  | clockLockAchieved (order : LatchOrder)
  | lossOfLock
  | frameStart (order : LatchOrder)
  | markStageExpiry (place : Nat)
  | blinkToggle
  | transferStart (x : Port)
  | transferEnd (x : Port) (partialBits : Fin 16)
  | fetch (x : Port) (words : Nat)
  | faults (x : Port)
  | clear (x : Port)
  | mode (x : Port) (cls : Fin 4) (newMode : Fin 8)
  | ident (x : Port)
  | arbiterGrant
  | commandCompletion
  | define (x : Port) (p : PaneId) (g : Geometry)
  | showPane (x : Port) (p : PaneId)
  | hidePane (x : Port) (p : PaneId)
  | dropPane (x : Port) (p : PaneId)
  | claim (x : Port) (p : PaneId)
  | release (x : Port) (p : PaneId)
  | raise (x : Port) (p : PaneId)
  | lower (x : Port) (p : PaneId)
  | behind (x : Port) (p q : PaneId)
  | setTop (x : Port) (p : PaneId) (top fine : Nat)
  | roll (x : Port) (p : PaneId) (k : Int) (clear : Bool)
  | log (x : Port) (p : PaneId) (attr : Attr) (codes : List Code)
  | place (x : Port) (p : PaneId) (row col : Nat) (attr : Attr) (codes : List Code)
  | sweep (x : Port) (p : PaneId) (row col w h : Nat) (code : Code) (attr : Attr) (override : Bool)
  | shift (x : Port) (p : PaneId) (srow scol drow dcol w h : Nat)
  | tint (x : Port) (p : PaneId) (row col w h : Nat) (attr : Attr) (mask : AttrMask)
  | tick (x : Port) (p : PaneId) (row col : Nat) (codes : List Code) (digit arrow : Bool)
  | readCells (x : Port) (p : PaneId) (row col n : Nat)
  | wait (x : Port)
  | glyph (x : Port) (code : Code) (rows : RowPairs)
  | patch (x : Port) (slot : Fin 16) (code : Code) (rows : RowPairs)
  | patchRows (x : Port) (slot : Fin 16) (rows : RowPairs)
  | patchCode (x : Port) (slot : Fin 16) (code : Code)
  | unpatch (x : Port) (slot : Fin 16)
  | readGlyph (x : Port) (slotOption : Bool) (slot : Fin 16) (code : Code)
  | palette (x : Port) (i : Index) (r g b : Nat)
  | ramp (x : Port) (dir : Fin 4) (stage : Fin 16) (fg bg : StageColour) (duration count : Nat)
  | staleColour (x : Port) (i : Index)
  | blink (x : Port) (period : Nat)
  | cursor (x : Port) (p : PaneId) (row col : Nat) (startScan endScan : Nat) (mode : Fin 4)
  | timing (x : Port) (preset : Fin 4) (height : Nat)
  | lock (x : Port)
  | retryExpiry (x : Port)
  | portReset (x : Port)
  | portResetRelease (x : Port)
  | wakeClearPulse
  | standbyEntry
  | standbyExit
  | wordSampled (x : Port) (w : Word)
  | cellAccess
  | resetAssertion
  deriving DecidableEq, Repr

end Sys2Proof
end

