-- ==== Sys2Proof/Decode.lean ====
section
/-! DEFINITION. The words that cross a port (spec 11, R206-R210): parity, fields, the command code table,
and the transfers that carry engine commands, both ways. The opcode table itself gives its rows no
bits, so `decodeTableWord` answers none. -/

namespace Sys2Proof

/-! ### Parity and fields (R173, R207) -/

/-- How many of bits 0 to `bits` − 1 of `n` are 1. -/
def onesBelow (bits n : Nat) : Nat :=
  (List.range bits).countP fun i => n.testBit i

/-- A word has good parity when its count of ones is odd (R173). -/
def parityGood (w : Word) : Bool :=
  onesBelow 16 w.toNat % 2 = 1

/-- The word whose bits 14-0 are the low bits of `n`, with the parity bit that makes its count of ones
odd (R173, R209). -/
def mkWord (n : Nat) : Word :=
  BitVec.ofNat 16 (n % 32768 + if onesBelow 15 n % 2 = 1 then 0 else 32768)

/-- `width` bits of a word from bit `lo` up, as an unsigned number. -/
def field (w : Word) (lo width : Nat) : Nat :=
  w.toNat / 2 ^ lo % 2 ^ width

/-- One bit of a word as a flag. -/
def flagBit (w : Word) (b : Nat) : Bool :=
  field w b 1 = 1

/-- A flag as bit `b` of a number. -/
def bitOf (f : Bool) (b : Nat) : Nat :=
  if f then 2 ^ b else 0

/-- The filler word: contents 0 (R209). -/
def fillerWord : Word := mkWord 0

/-- The empty marker: contents all ones (R209). -/
def emptyMarker : Word := mkWord 32767

/-! ### The command code table (R206) -/

/-- One row of R206's second table: a command code, its allowed word counts with the header included,
and whether it is a service transfer. -/
structure CodeRow where
  code : Nat
  minWords : Nat
  maxWords : Nat
  service : Bool
  deriving DecidableEq, Repr

/-- The service rows of R206's second table. -/
def serviceRows : List CodeRow :=
  [⟨1, 1, 128, true⟩,   -- FETCH
   ⟨2, 1, 1, true⟩,     -- FAULTS
   ⟨3, 1, 1, true⟩,     -- CLEAR
   ⟨4, 2, 2, true⟩,     -- MODE
   ⟨5, 1, 1, true⟩]     -- IDENT

/-- The engine rows of R206's second table. -/
def engineRows : List CodeRow :=
  [⟨8, 12, 12, false⟩,  -- DEFINE
   ⟨9, 1, 1, false⟩, ⟨10, 1, 1, false⟩, ⟨11, 1, 1, false⟩, ⟨12, 1, 1, false⟩,
                        -- SHOW, HIDE, DROP, CLAIM
   ⟨13, 1, 1, false⟩, ⟨14, 1, 1, false⟩, ⟨15, 1, 1, false⟩,
                        -- RELEASE, RAISE, LOWER
   ⟨16, 2, 2, false⟩,   -- BEHIND
   ⟨17, 3, 3, false⟩,   -- SET_TOP
   ⟨18, 2, 2, false⟩,   -- ROLL
   ⟨19, 2, 126, false⟩, -- LOG
   ⟨20, 5, 128, false⟩, -- PLACE
   ⟨21, 7, 7, false⟩,   -- SWEEP
   ⟨22, 7, 7, false⟩, ⟨23, 7, 7, false⟩,
                        -- SHIFT, TINT
   ⟨24, 4, 19, false⟩,  -- TICK
   ⟨25, 4, 4, false⟩,   -- READ_CELLS
   ⟨26, 1, 1, false⟩,   -- WAIT
   ⟨28, 10, 10, false⟩, -- GLYPH
   ⟨29, 10, 10, false⟩, -- PATCH
   ⟨30, 9, 9, false⟩,   -- PATCH_ROWS
   ⟨31, 2, 2, false⟩,   -- PATCH_CODE
   ⟨32, 1, 1, false⟩,   -- UNPATCH
   ⟨33, 2, 2, false⟩,   -- READ_GLYPH
   ⟨36, 4, 4, false⟩,   -- PALETTE
   ⟨37, 6, 6, false⟩,   -- RAMP
   ⟨38, 2, 2, false⟩,   -- STALE_COLOUR
   ⟨39, 2, 2, false⟩,   -- BLINK
   ⟨40, 6, 6, false⟩,   -- CURSOR
   ⟨44, 3, 3, false⟩,   -- TIMING
   ⟨45, 1, 1, false⟩]   -- LOCK

/-- R206's row of a command code; none for an unknown code (R207). -/
def codeRow (code : Nat) : Option CodeRow :=
  (serviceRows ++ engineRows).find? fun r => r.code = code

/-- The code names a service transfer (R175). -/
def isService (code : Nat) : Bool :=
  match codeRow code with
  | some r => r.service
  | none => false

/-- The code is known and a transfer of it may hold `words` words (R177). -/
def countAllowed (code words : Nat) : Bool :=
  match codeRow code with
  | some r => r.minWords ≤ words && words ≤ r.maxWords
  | none => false

/-! ### Header and fields of the argument words (R206-R210) -/

/-- The command code of a header word. -/
def headerCode (h : Word) : Nat := field h 9 6

/-- A header word: command code, index field, option bits (R206). -/
def header (code index options : Nat) : Nat :=
  code % 64 * 512 + index % 16 * 32 + options % 32

/-- The contents of an attribute word (R209). -/
def attrContents (t : Attr) : Nat :=
  bitOf t.guarded 12 + bitOf t.conceal 11 + bitOf t.inverse 10 + bitOf t.underline 9 +
    bitOf t.blink 8 + t.bg.val * 16 + t.fg.val

/-- The attributes an attribute word carries (R209). -/
def attrOf (w : Word) : Attr where
  fg := Fin.ofNat 16 (field w 0 4)
  bg := Fin.ofNat 16 (field w 4 4)
  blink := flagBit w 8
  underline := flagBit w 9
  inverse := flagBit w 10
  conceal := flagBit w 11
  guarded := flagBit w 12

/-- The contents of a TINT mask word (R207). -/
def maskContents (m : AttrMask) : Nat :=
  bitOf m.guarded 6 + bitOf m.conceal 5 + bitOf m.inverse 4 + bitOf m.underline 3 +
    bitOf m.blink 2 + bitOf m.bg 1 + bitOf m.fg 0

/-- The fields a TINT mask word selects (R207). -/
def maskOf (w : Word) : AttrMask where
  fg := flagBit w 0
  bg := flagBit w 1
  blink := flagBit w 2
  underline := flagBit w 3
  inverse := flagBit w 4
  conceal := flagBit w 5
  guarded := flagBit w 6

/-- The contents of a RAMP colour word: bit 4 KEEP, bits 3-0 the index (R207). -/
def stageContents : StageColour → Nat
  | .keep => 16
  | .index i => i.val

/-- The colour a RAMP colour word carries; the index is ignored when KEEP is set (R207). -/
def stageOf (w : Word) : StageColour :=
  if flagBit w 4 then .keep else .index (Fin.ofNat 16 (field w 0 4))

/-- A ROLL count from its two's complement field (R207). -/
def rollCount (w : Word) : Int :=
  let n := field w 0 15
  if n < 16384 then n else (n : Int) - 32768

/-- The code a word carries in bits 8-0 (R207). -/
def codeOf (w : Word) : Code := Fin.ofNat 512 (field w 0 9)

/-- The contents of row-pair words, as carried (R210). -/
def rowContents (rows : RowPairs) : List Nat := rows.toList.map BitVec.toNat

/-- Eight row-pair words read back (R210). -/
def rowsOf : List Word → Option RowPairs
  | [a, b, c, d, e, f, g, h] =>
    let r (w : Word) : BitVec 15 := BitVec.ofNat 15 w.toNat
    some #v[r a, r b, r c, r d, r e, r f, r g, r h]
  | _ => none

/-! ### Engine transfers -/

/-- The contents of the words of a command's transfer, header first, in the order of R208. Bits the
command does not use are 0 (log 24). -/
def commandContents : Command → List Nat
  | .define p g =>
      [header 8 p.val (bitOf g.pinned 0), g.originCol % 512, g.originRow % 512, g.width % 512,
       g.height % 512, g.base % 32768, g.pitch % 512, (g.ringLines - 1) % 32768, g.frozen % 512,
       g.underline % 32, g.fillCode.val, attrContents g.fillAttr]
  | .showPane p => [header 9 p.val 0]
  | .hidePane p => [header 10 p.val 0]
  | .dropPane p => [header 11 p.val 0]
  | .claim p => [header 12 p.val 0]
  | .release p => [header 13 p.val 0]
  | .raise p => [header 14 p.val 0]
  | .lower p => [header 15 p.val 0]
  | .behind p q => [header 16 p.val 0, q.val]
  | .setTop p top fine => [header 17 p.val 0, top % 32768, fine % 16]
  | .roll p k clear => [header 18 p.val (bitOf clear 0), (k % 32768).toNat]
  | .log p attr codes => header 19 p.val 0 :: attrContents attr :: codes.map Fin.val
  | .place p row col attr codes =>
      header 20 p.val 0 :: row % 512 :: col % 512 :: attrContents attr :: codes.map Fin.val
  | .sweep p row col w h code attr override =>
      [header 21 p.val (bitOf override 0), row % 512, col % 512, w % 512, h % 512, code.val,
       attrContents attr]
  | .shift p srow scol drow dcol w h =>
      [header 22 p.val 0, srow % 512, scol % 512, drow % 512, dcol % 512, w % 512, h % 512]
  | .tint p row col w h attr mask =>
      [header 23 p.val 0, row % 512, col % 512, w % 512, h % 512, attrContents attr,
       maskContents mask]
  | .tick p row col codes digit arrow =>
      header 24 p.val (bitOf digit 0 + bitOf arrow 1) :: row % 512 :: col % 512 ::
        codes.map Fin.val
  | .readCells p row col n => [header 25 p.val 0, row % 512, col % 512, n % 512]
  | .wait => [header 26 0 0]
  | .glyph code rows => header 28 0 0 :: code.val :: rowContents rows
  | .patch slot code rows => header 29 slot.val 0 :: code.val :: rowContents rows
  | .patchRows slot rows => header 30 slot.val 0 :: rowContents rows
  | .patchCode slot code => [header 31 slot.val 0, code.val]
  | .unpatch slot => [header 32 slot.val 0]
  | .readGlyph slotOption slot code => [header 33 slot.val (bitOf slotOption 0), code.val]
  | .palette i r g b => [header 36 i.val 0, r % 256, g % 256, b % 256]
  | .ramp dir stage fg bg duration count =>
      [header 37 0 0, stage.val * 16 + dir.val, stageContents fg, stageContents bg, duration % 256,
       count % 8]
  | .staleColour i => [header 38 0 0, i.val]
  | .blink period => [header 39 0 0, period % 256]
  | .cursor p row col startScan endScan mode =>
      [header 40 p.val 0, row % 512, col % 512, startScan % 16, endScan % 16, mode.val]
  | .timing preset height => [header 44 0 0, preset.val, height % 32]
  | .lock => [header 45 0 0]

/-- The words a master clocks in to send an engine command. -/
def encodeCommand (c : Command) : List Word :=
  (commandContents c).map mkWord

/-- The engine command that argument words carry under a header, by R208's table; none when the words
are not as many as the command has. -/
def decodeArguments (h : Word) (args : List Word) : Option Command :=
  let p : PaneId := Fin.ofNat 16 (field h 5 4)
  match headerCode h with
  | 8 => match args with
    | [oc, orow, w, ht, base, pitch, ring, frozen, ul, code, attr] =>
      some (.define p
        { originCol := field oc 0 9, originRow := field orow 0 9, width := field w 0 9,
          height := field ht 0 9, base := field base 0 15, pitch := field pitch 0 9,
          ringLines := field ring 0 15 + 1, frozen := field frozen 0 9,
          underline := field ul 0 5, fillCode := codeOf code, fillAttr := attrOf attr,
          pinned := flagBit h 0 })
    | _ => none
  | 9 => some (.showPane p)
  | 10 => some (.hidePane p)
  | 11 => some (.dropPane p)
  | 12 => some (.claim p)
  | 13 => some (.release p)
  | 14 => some (.raise p)
  | 15 => some (.lower p)
  | 16 => match args with
    | [q] => some (.behind p (Fin.ofNat 16 (field q 0 4)))
    | _ => none
  | 17 => match args with
    | [top, fine] => some (.setTop p (field top 0 15) (field fine 0 4))
    | _ => none
  | 18 => match args with
    | [k] => some (.roll p (rollCount k) (flagBit h 0))
    | _ => none
  | 19 => match args with
    | attr :: codes => some (.log p (attrOf attr) (codes.map codeOf))
    | _ => none
  | 20 => match args with
    | row :: col :: attr :: codes =>
      some (.place p (field row 0 9) (field col 0 9) (attrOf attr) (codes.map codeOf))
    | _ => none
  | 21 => match args with
    | [row, col, w, ht, code, attr] =>
      some (.sweep p (field row 0 9) (field col 0 9) (field w 0 9) (field ht 0 9) (codeOf code)
        (attrOf attr) (flagBit h 0))
    | _ => none
  | 22 => match args with
    | [srow, scol, drow, dcol, w, ht] =>
      some (.shift p (field srow 0 9) (field scol 0 9) (field drow 0 9) (field dcol 0 9)
        (field w 0 9) (field ht 0 9))
    | _ => none
  | 23 => match args with
    | [row, col, w, ht, attr, mask] =>
      some (.tint p (field row 0 9) (field col 0 9) (field w 0 9) (field ht 0 9) (attrOf attr)
        (maskOf mask))
    | _ => none
  | 24 => match args with
    | row :: col :: codes =>
      some (.tick p (field row 0 9) (field col 0 9) (codes.map codeOf) (flagBit h 0) (flagBit h 1))
    | _ => none
  | 25 => match args with
    | [row, col, n] => some (.readCells p (field row 0 9) (field col 0 9) (field n 0 9))
    | _ => none
  | 26 => some .wait
  | 28 => match args with
    | code :: rows => (rowsOf rows).map (.glyph (codeOf code))
    | _ => none
  | 29 => match args with
    | code :: rows => (rowsOf rows).map (.patch p (codeOf code))
    | _ => none
  | 30 => (rowsOf args).map (.patchRows p)
  | 31 => match args with
    | [code] => some (.patchCode p (codeOf code))
    | _ => none
  | 32 => some (.unpatch p)
  | 33 => match args with
    | [code] => some (.readGlyph (flagBit h 0) p (codeOf code))
    | _ => none
  | 36 => match args with
    | [r, g, b] => some (.palette p (field r 0 8) (field g 0 8) (field b 0 8))
    | _ => none
  | 37 => match args with
    | [ds, fg, bg, duration, count] =>
      some (.ramp (Fin.ofNat 4 (field ds 0 2)) (Fin.ofNat 16 (field ds 4 4)) (stageOf fg)
        (stageOf bg) (field duration 0 8) (field count 0 3))
    | _ => none
  | 38 => match args with
    | [i] => some (.staleColour (Fin.ofNat 16 (field i 0 4)))
    | _ => none
  | 39 => match args with
    | [period] => some (.blink (field period 0 8))
    | _ => none
  | 40 => match args with
    | [row, col, startScan, endScan, mode] =>
      some (.cursor p (field row 0 9) (field col 0 9) (field startScan 0 4) (field endScan 0 4)
        (Fin.ofNat 4 (field mode 0 2)))
    | _ => none
  | 44 => match args with
    | [preset, height] => some (.timing (Fin.ofNat 4 (field preset 0 2)) (field height 0 5))
    | _ => none
  | 45 => some .lock
  | _ => none

/-- The engine command a complete transfer carries (R207, R208); none for words no port lets become
one (a service or unknown code, a word count R206 does not allow). -/
def decodeCommand : List Word → Option Command
  | [] => none
  | h :: args =>
    if isService (headerCode h) || !countAllowed (headerCode h) (args.length + 1) then none
    else decodeArguments h args

/-- The words of a FETCH of `n` words: the header, then words whose content is ignored (R183). -/
def fetchWords : Nat → List Word
  | 0 => []
  | n + 1 => mkWord (header 1 0 0) :: List.replicate n fillerWord

/-- The words of a MODE transfer: the class in bits 5-4 and the mode in bits 2-0 (R207). -/
def modeWords (cls : Fin 4) (newMode : Fin 8) : List Word :=
  [mkWord (header 4 0 0), mkWord (cls.val * 16 + newMode.val)]

/-! ### The host's question -/

/-- The command a word spells by the opcode table's bits: the table gives no row any bits. -/
def decodeTableWord (_nbits _w : Nat) : Option Instr := none

end Sys2Proof
end

