-- ==== Sys2Proof/Config.lean ====
section
/-! DEFINITION. What the part fixes once: sizes of its stores, and the free values: the ROM glyphs the spec
names without drawing them, and an order the spec leaves open. -/

namespace Sys2Proof.Config

/-- Cells of the plane (R1). -/
abbrev planeSize : Nat := 32768

/-- Words of a command queue (R180). -/
abbrev queueWords : Nat := 128

/-- Words of a reply buffer (R181). -/
abbrev replyWords : Nat := 64

/-- Records of the mark table (R72). -/
abbrev maxMarks : Nat := 192

/-- Time a retry timer is started with under RESUME_FAST, in ms (R195). -/
abbrev retryFast : Nat := 2

/-- Time a retry timer is started with under RESUME_SLOW, in ms (R195). -/
abbrev retrySlow : Nat := 50

/-- Glyph row `row` of ROM code `code`, pixel 0 the most significant bit. FREE VALUE (log 7): R13
names what the ROM glyphs show and does not draw them. Only rows the spec leaves undrawn are taken
from here (`Machine.romRow`). -/
opaque romRow : (code row : Nat) → BitVec 8

/-- Whether the colour unit's latch comes before the mark ageing at the frame start after `frame` others,
where the row that stands for it does not say (R78). FREE VALUE (log 5). -/
opaque latchesFirst : (frame : Nat) → Bool

end Sys2Proof.Config
end

