-- ==== Sys2Proof/Machine/State.lean ====
section
/-! DEFINITION. The state of the part: every record, store, flag and pin the spec names, as plain data,
and its value after reset. INVENTORY.md lists each item with its rule. -/

namespace Sys2Proof.Machine

/-! ### The cell plane (spec 01) -/

/-- One cell: a code and the seven attribute fields (R1). -/
structure Cell where
  code : Code
  attr : Attr
  deriving DecidableEq, Repr

/-- The cell the power-on clear stores everywhere (R14). -/
def resetCell : Cell :=
  { code := 32
    attr := { fg := 7, bg := 0, blink := false, underline := false, inverse := false,
              conceal := false, guarded := false } }

/-- The 32,768 cells, as (address, cell) pairs: addresses strictly rising, and no entry equal to
`resetCell`, which is what an unlisted address holds. -/
abbrev Plane := List (Nat × Cell)

/-! ### Panes and the stack (spec 02) -/

inductive PaneState where
  | undefined | hidden | shown
  deriving DecidableEq, Repr

/-- The pane fields scan-out reads: the displayed record, and that part of the working one (R15). -/
structure PaneView where
  state : PaneState
  stale : Bool
  originCol : Nat
  originRow : Nat
  width : Nat
  height : Nat
  base : Nat
  pitch : Nat
  ringLines : Nat
  frozen : Nat
  top : Nat
  fine : Nat
  underlineRow : Option Nat
  deriving DecidableEq, Repr

/-- A working pane record (R15): the view, and the four fields scan-out does not read. -/
structure Pane where
  view : PaneView
  owner : Option Port
  hold : Option Port
  pinned : Bool
  fill : Cell
  deriving DecidableEq, Repr

/-- The displayed part of a pane record after power-on reset (R16). -/
def PaneView.atReset : PaneView where
  state := .undefined
  stale := false
  originCol := 0
  originRow := 0
  width := 1
  height := 1
  base := 0
  pitch := 1
  ringLines := 1
  frozen := 0
  top := 0
  fine := 0
  underlineRow := none

/-- A working pane record after power-on reset, but for its owner (R16). -/
def Pane.atReset (owner : Option Port) : Pane where
  view := PaneView.atReset
  owner := owner
  hold := none
  pinned := false
  fill := resetCell

/-! ### The mark table and the tick ramp (spec 04, 07) -/

inductive Direction where
  | up | down | neutral
  deriving DecidableEq, Repr

/-- A mark record (R71). -/
structure Mark where
  start : Nat
  length : Nat
  dir : Direction
  stage : Nat
  left : Nat
  deriving DecidableEq, Repr

/-- One stage record of the ramp (R132). -/
structure RampStage where
  fg : StageColour
  bg : StageColour
  duration : Nat
  deriving DecidableEq, Repr

/-- The ramp of one direction: its stage count and all four stage records (R132). -/
structure DirRamp where
  count : Nat
  stages : Vector RampStage 4
  deriving DecidableEq, Repr

/-- The tick ramp (R132). -/
structure Ramp where
  up : DirRamp
  down : DirRamp
  neutral : DirRamp
  deriving DecidableEq, Repr

/-- The stage past a direction's count in R132's reset table. -/
def RampStage.unused : RampStage := ⟨.keep, .keep, 1⟩

/-- The ramp after power-on reset (R132). -/
def Ramp.atReset : Ramp where
  up := ⟨3, #v[⟨.index 15, .index 2, 6⟩, ⟨.index 10, .keep, 12⟩, ⟨.index 2, .keep, 18⟩, .unused]⟩
  down := ⟨3, #v[⟨.index 15, .index 1, 6⟩, ⟨.index 9, .keep, 12⟩, ⟨.index 1, .keep, 18⟩, .unused]⟩
  neutral := ⟨2, #v[⟨.index 0, .index 11, 6⟩, ⟨.index 11, .keep, 12⟩, .unused, .unused]⟩

/-! ### Glyph store (spec 06) -/

/-- A bitmap: 16 rows of 8 pixels, pixel 0 (the left one) the most significant bit (R115). -/
abbrev Bitmap := Vector (BitVec 8) 16

/-- Every pixel off. -/
def Bitmap.blank : Bitmap := Vector.replicate 16 0

/-- A patch slot (R116). -/
structure Slot where
  code : Code
  enabled : Bool
  bitmap : Bitmap
  deriving DecidableEq, Repr

/-! ### Colour, blink and the cursor (spec 07) -/

/-- A palette entry's components, each 0-255 (R129). -/
structure Colour where
  red : Nat
  green : Nat
  blue : Nat
  deriving DecidableEq, Repr

/-- The palette after power-on reset (R129). -/
def paletteAtReset : Vector Colour 16 :=
  #v[⟨0, 0, 0⟩, ⟨128, 0, 0⟩, ⟨0, 128, 0⟩, ⟨128, 128, 0⟩,
     ⟨0, 0, 128⟩, ⟨128, 0, 128⟩, ⟨0, 128, 128⟩, ⟨192, 192, 192⟩,
     ⟨128, 128, 128⟩, ⟨255, 0, 0⟩, ⟨0, 255, 0⟩, ⟨255, 255, 0⟩,
     ⟨0, 0, 255⟩, ⟨255, 0, 255⟩, ⟨0, 255, 255⟩, ⟨255, 255, 255⟩]

/-- The blink timer (R136); `phaseOn` is the blink phase ON. -/
structure BlinkTimer where
  latch : Nat
  pending : Option Nat
  counter : Nat
  phaseOn : Bool
  deriving DecidableEq, Repr

inductive CursorMode where
  | off | steady | blink
  deriving DecidableEq, Repr

/-- The cursor record (R140). -/
structure Cursor where
  pane : PaneId
  row : Nat
  col : Nat
  startScan : Nat
  endScan : Nat
  mode : CursorMode
  deriving DecidableEq, Repr

/-- The cursor record after power-on reset (R140). -/
def Cursor.atReset : Cursor := ⟨0, 0, 0, 0, 15, .off⟩

/-! ### Raster (spec 08) -/

/-- A preset and a cell height (R147). -/
structure Timing where
  preset : Fin 4
  height : Nat
  deriving DecidableEq, Repr

inductive ClockState where
  | locking | locked | stopped
  deriving DecidableEq, Repr

/-- Where the part is between the assertion of RESET and the end of the power-on clear (R14, R112). -/
inductive Phase where
  | inReset | clearing | running
  deriving DecidableEq, Repr

/-! ### Client ports and fault records (spec 09, 10) -/

/-- The eleven sticky flags (R194). -/
inductive Flag where
  | parity | framing | overrun | format
  | owner | range | overlap | busy | timingLocked | guarded
  | clock
  deriving DecidableEq, Repr

/-- Refusal codes 1-6 (R188). -/
inductive RefusalCode where
  | owner | range | overlap | busy | timingLocked | guarded
  deriving DecidableEq, Repr

/-- The sticky flags of one record (R194). -/
structure Sticky where
  parity : Bool
  framing : Bool
  overrun : Bool
  format : Bool
  owner : Bool
  range : Bool
  overlap : Bool
  busy : Bool
  timingLocked : Bool
  guarded : Bool
  clock : Bool
  deriving DecidableEq, Repr

/-- No flag set. -/
def Sticky.clear : Sticky :=
  ⟨false, false, false, false, false, false, false, false, false, false, false⟩

inductive FaultMode where
  | ignore | report | resumeFast | resumeSlow | latch
  deriving DecidableEq, Repr

inductive Condition where
  | running | paused | halted
  deriving DecidableEq, Repr

/-- A port's fault record (R194). `retry` is none while the retry timer is stopped, else the time it
was last started with, in ms (log 15); `lastRefusal` is none for code 0. -/
structure FaultRecord where
  sticky : Sticky
  linkMode : FaultMode
  refuseMode : FaultMode
  condition : Condition
  retry : Option Nat
  lastRefusal : Option RefusalCode
  deriving DecidableEq, Repr

/-- A fault record after power-on reset or a port reset (R192, R194). -/
def FaultRecord.atReset : FaultRecord where
  sticky := Sticky.clear
  linkMode := .resumeFast
  refuseMode := .report
  condition := .running
  retry := none
  lastRefusal := none

/-- Where a transfer's words go (R175). -/
inductive Destination where
  | queue | assembler
  deriving DecidableEq, Repr

/-- The open-transfer record (R175). `queued` holds its words at the tail of the command queue (R180);
`statusB` is the snapshot's second word; `outWord` is the word being shifted out, and `outReply` says
that it is the head of the reply buffer (R183). -/
structure OpenTransfer where
  header : Option Word
  destination : Option Destination
  words : Nat
  partialBits : Nat
  paritySeen : Bool
  overrun : Bool
  heldWords : List Word
  queued : List Word
  statusB : Word
  outWord : Word
  outReply : Bool
  deriving DecidableEq, Repr

/-- The state of one port (spec 09). `queue` holds the complete engine transfers, oldest first;
`reply` the present reply words, oldest first, and `reserved` counts reserved places; `held` says that
a qualified low holds the port (R191); `selLow` is the level of SEL_x; `sent` is what the current or
latest transfer has shifted out whole on SDO_x, and `sentBits` the bits it shifted after them before it
ended part way through a word (log 17). -/
structure PortState where
  openT : Option OpenTransfer
  queue : List (List Word)
  reply : List Word
  reserved : Nat
  faults : FaultRecord
  waiting : Bool
  clip : Bool
  held : Bool
  selLow : Bool
  sent : List Word
  sentBits : List Bool
  deriving DecidableEq, Repr

/-- A port after power-on reset, its lines high. -/
def PortState.atReset : PortState where
  openT := none
  queue := []
  reply := []
  reserved := 0
  faults := FaultRecord.atReset
  waiting := false
  clip := false
  held := false
  selLow := false
  sent := []
  sentBits := []

/-- The three ports. -/
structure Ports where
  a : PortState
  b : PortState
  c : PortState
  deriving DecidableEq, Repr

/-! ### The command in flight (spec 05) -/

/-- One indivisible step of a command in flight: one cell access, or one of the steps that are not
(the mark event of TICK, the top-line update of ROLL and LOG, the discarding of LOG's last codes, the
read of a whole bitmap, the recording of a refusal). Rows are logical rows and lines are
region lines of the pane named; the address is formed when the step is reached (R3, R41, R94). -/
inductive Micro where
  /-- PLACE and SWEEP: a full write, skipped on a guarded cell unless `override` (R8, R96, R98). -/
  | put (col row : Nat) (cell : Cell) (override : Bool)
  /-- SHIFT: the read of a source cell (R100). -/
  | load (col row : Nat)
  /-- SHIFT: the write of the cell just read (R101). -/
  | store (col row : Nat)
  /-- TINT: an attribute write (R102). -/
  | tint (col row : Nat) (attr : Attr) (mask : AttrMask)
  /-- READ_CELLS: a read and its two reply words (R104). -/
  | read (col row : Nat)
  /-- A whole-line clear's write of the fill cell (R48). -/
  | clearCell (line col : Nat)
  /-- LOG: a full write into the cleared line (R51). -/
  | text (line col : Nat) (cell : Cell)
  /-- TICK step 1: the read of an old code (R61). -/
  | readOld (col row : Nat)
  /-- TICK step 3: a code write (R67). -/
  | putCode (col row : Nat) (code : Code)
  /-- TICK steps 4 and 5: the mark event for the field whose new text is `new` (R73). -/
  | markEvent (col row : Nat) (new : List Code) (digit : Bool)
  /-- TICK step 6: the arrow write (R70). -/
  | arrow (col row : Nat) (new : List Code)
  /-- The top-line update, forward by `c` lines (R47, R51, R53). -/
  | advance (c : Nat)
  /-- LOG: the codes past the width are discarded and CLIP is set (R51; log 12). -/
  | discard
  /-- READ_GLYPH: the bitmap is read and its eight words are appended (R127; log 30). -/
  | readBitmap (slotOption : Bool) (slot : Fin 16) (code : Code)
  /-- The end of a refused command: the refusal is recorded (R92, R110; log 29). -/
  | refuse (code : RefusalCode)
  deriving DecidableEq, Repr

/-- The command in flight (R87): the granted transfer and its port, the pane it names (0 when it names
none), the steps still to do, and what its reads hold: the cell a SHIFT has read and not yet written, and the old codes a
TICK has read, leftmost first. -/
structure Flight where
  port : Port
  transfer : List Word
  pane : PaneId
  todo : List Micro
  held : Option Cell
  old : List Code
  deriving DecidableEq, Repr

/-! ### The whole part -/

/-- The machine. `frameCount` is the model's own count of frame starts, which tells one picture from another
(R169, R171; log 32); `pending` is the model's queue of waiting events, first in, first out. -/
structure State where
  phase : Phase
  standby : Bool
  clock : ClockState
  plane : Plane
  panes : Vector Pane 16
  shownPanes : Vector PaneView 16
  stack : List PaneId
  shownStack : List PaneId
  marks : List Mark
  ramGlyphs : Vector Bitmap 128
  slots : Vector Slot 8
  palette : Vector Colour 16
  shownPalette : Vector Colour 16
  ramp : Ramp
  shownRamp : Ramp
  staleColour : Index
  shownStaleColour : Index
  blink : BlinkTimer
  cursor : Cursor
  shownCursor : Cursor
  holder : Option Port
  timing : Timing
  shownTiming : Timing
  timingLock : Bool
  flight : Option Flight
  grantPtr : Port
  ports : Ports
  frameCount : Nat
  pending : List Instr
  deriving DecidableEq, Repr

/-- Why the model stops. -/
inductive Fault where
  /-- Raised by an engine access to a cell address past 32,767, which the plane does not have (R2).
  SAFE: no state that keeps the laws of R3 and R22 reaches it, so it removes behaviour of states the
  part never has (log 20). -/
  | noSuchCell (address : Nat)
  deriving DecidableEq, Repr

/-- Why the model gives an event no meaning. -/
inductive Refusal where
  /-- An event that has no meaning yet. SAFE: it stops. No arm of `exec` raises it. -/
  | notModelled (mnemonic : String)
  deriving DecidableEq, Repr

/-- The stack's reset order, pane 0 frontmost (R32). -/
def stackAtReset : List PaneId := [0, 1, 2, 3, 4, 5, 6, 7, 8, 9, 10, 11, 12, 13, 14, 15]

/-- The machine right after the release of RESET: every block at its reset values, OSEL and TSEL at
level 0 (log 10), the power-on clear begun (R14) and the pixel clock LOCKING (R149). -/
def State.reset : State where
  phase := .clearing
  standby := false
  clock := .locking
  plane := []
  panes := Vector.replicate 16 (Pane.atReset none)
  shownPanes := Vector.replicate 16 PaneView.atReset
  stack := stackAtReset
  shownStack := stackAtReset
  marks := []
  ramGlyphs := Vector.replicate 128 Bitmap.blank
  slots := Vector.replicate 8 ⟨0, false, Bitmap.blank⟩
  palette := paletteAtReset
  shownPalette := paletteAtReset
  ramp := Ramp.atReset
  shownRamp := Ramp.atReset
  staleColour := 8
  shownStaleColour := 8
  blink := ⟨32, none, 0, true⟩
  cursor := Cursor.atReset
  shownCursor := Cursor.atReset
  holder := none
  timing := ⟨0, 16⟩
  shownTiming := ⟨0, 16⟩
  timingLock := false
  flight := none
  grantPtr := .c
  ports := ⟨PortState.atReset, PortState.atReset, PortState.atReset⟩
  frameCount := 0
  pending := []

end Sys2Proof.Machine
end

