-- ==== Sys2Proof/Machine/Ops.lean ====
section
/-! DEFINITION. Named operations over the stores of the part: cells, panes, ports, marks, reply buffers
and command queues. -/

namespace Sys2Proof.Machine

/-! ### Cells (R1, R2) -/

/-- The cell at an address, as the latest write left it (R11). -/
def Plane.read : Plane → Nat → Cell
  | [], _ => resetCell
  | (b, d) :: rest, a => if b = a then d else Plane.read rest a

/-- One whole cell written (R1); the list stays in its canonical form. -/
def Plane.write : Plane → Nat → Cell → Plane
  | [], a, c => if c = resetCell then [] else [(a, c)]
  | (b, d) :: rest, a, c =>
    if a < b then
      if c = resetCell then (b, d) :: rest else (a, c) :: (b, d) :: rest
    else if a = b then
      if c = resetCell then rest else (a, c) :: rest
    else (b, d) :: Plane.write rest a c

/-- The canonical form: addresses strictly rising, every listed cell other than the reset cell. -/
def Plane.wf (m : Plane) : Bool :=
  decide ((m.map Prod.fst).Pairwise (· < ·)) && m.all fun e => e.2 ≠ resetCell

/-- The cell at an address of the plane. -/
def State.cell (s : State) (a : Nat) : Cell := s.plane.read a

/-- A cell's attribute fields, those of `t` that `m` selects and its own elsewhere (R7). -/
def Attr.masked (old t : Attr) (m : AttrMask) : Attr where
  fg := if m.fg then t.fg else old.fg
  bg := if m.bg then t.bg else old.bg
  blink := if m.blink then t.blink else old.blink
  underline := if m.underline then t.underline else old.underline
  inverse := if m.inverse then t.inverse else old.inverse
  conceal := if m.conceal then t.conceal else old.conceal
  guarded := if m.guarded then t.guarded else old.guarded

/-- The mask selects no field (R102). -/
def AttrMask.isEmpty (m : AttrMask) : Bool :=
  !(m.fg || m.bg || m.blink || m.underline || m.inverse || m.conceal || m.guarded)

/-! ### Marks (R71-R75) -/

/-- The record covers the cell at an address. -/
def Mark.covers (m : Mark) (a : Nat) : Bool :=
  m.start ≤ a && a < m.start + m.length

/-- The record shares an address with the run of `n` cells from `a`. -/
def Mark.meets (m : Mark) (a n : Nat) : Bool :=
  m.start < a + n && a < m.start + m.length

/-- A write that does not store a code: no mark is touched (R7, R76). -/
def State.writeAttr (s : State) (a : Nat) (t : Attr) : State :=
  { s with plane := s.plane.write a { s.cell a with attr := t } }

/-- A write that stores a code, full or not: every record over the cell is removed (R75). -/
def State.writeCell (s : State) (a : Nat) (c : Cell) : State :=
  { s with plane := s.plane.write a c, marks := s.marks.filter fun m => !m.covers a }

/-- A TICK field's code write, which removes no mark of its own (R67). -/
def State.writeFieldCode (s : State) (a : Nat) (k : Code) : State :=
  { s with plane := s.plane.write a { s.cell a with code := k } }

/-! ### Panes -/

/-- A pane's working record. -/
def State.pane (s : State) (p : PaneId) : Pane := s.panes[p]

/-- A pane's working record replaced. -/
def State.setPane (s : State) (p : PaneId) (r : Pane) : State :=
  { s with panes := s.panes.set p.val r p.isLt }

/-- A pane's working record with another view part. -/
def State.setView (s : State) (p : PaneId) (v : PaneView) : State :=
  s.setPane p { s.pane p with view := v }

/-- The pane is HIDDEN or SHOWN (R19). -/
def Pane.defined (r : Pane) : Bool := r.view.state ≠ .undefined

/-! ### Ports -/

/-- One port's state. -/
def Ports.get (ps : Ports) : Port → PortState
  | .a => ps.a
  | .b => ps.b
  | .c => ps.c

/-- One port's state replaced. -/
def Ports.set (ps : Ports) (x : Port) (p : PortState) : Ports :=
  match x with
  | .a => { ps with a := p }
  | .b => { ps with b := p }
  | .c => { ps with c := p }

/-- The same change made to each port. -/
def Ports.map (f : PortState → PortState) (ps : Ports) : Ports :=
  ⟨f ps.a, f ps.b, f ps.c⟩

def State.port (s : State) (x : Port) : PortState := s.ports.get x

def State.setPort (s : State) (x : Port) (p : PortState) : State :=
  { s with ports := s.ports.set x p }

/-- One port's state changed by a function. -/
def State.updPort (s : State) (x : Port) (f : PortState → PortState) : State :=
  s.setPort x (f (s.port x))

/-- The port after another in the rotation A, B, C, A (R90). -/
def Port.after : Port → Port
  | .a => .b
  | .b => .c
  | .c => .a

/-- A port is ready: the power-on clear is over, the part is not in standby and the port is not held
by its reset line (R189). -/
def State.ready (s : State) (x : Port) : Bool :=
  s.phase = .running && !s.standby && !(s.port x).held

/-! ### Command queue and reply buffer (R180, R181) -/

/-- The words the queue holds, complete and open together (R180). -/
def PortState.wordsHeld (p : PortState) : Nat :=
  (p.queue.map List.length).sum + (p.openT.map fun o => o.queued.length).getD 0

/-- The queue free words (R180). -/
def PortState.freeWords (p : PortState) : Nat := Config.queueWords - p.wordsHeld

/-- The room of the reply buffer: present words and reserved places are taken (R181). -/
def PortState.room (p : PortState) : Nat := Config.replyWords - (p.reply.length + p.reserved)

/-- A reply word the engine appends turns one reserved place into a present word (R89). Without a
reserved place, which no granted read lacks, nothing is appended (log 27). -/
def PortState.appendReserved (p : PortState) (w : Word) : PortState :=
  if p.reserved = 0 then p
  else { p with reply := p.reply ++ [w], reserved := p.reserved - 1 }

/-- Reply words appended by the engine, in order. -/
def PortState.appendReply (p : PortState) (ws : List Word) : PortState :=
  ws.foldl PortState.appendReserved p

/-- Reservations left over are released (R89). -/
def PortState.releaseReserved (p : PortState) : PortState := { p with reserved := 0 }

/-- The issuing port's CLIP flag set when `cut` (R93). -/
def State.setClip (s : State) (x : Port) (cut : Bool) : State :=
  if cut then s.updPort x fun p => { p with clip := true } else s

/-! ### The command in flight (R87) -/

/-- The steps the command in flight has still to do. -/
def State.toDo (s : State) (todo : List Micro) : State :=
  { s with flight := s.flight.map fun f => { f with todo := todo } }

/-- The command in flight fails a check: it has no effect, and all it has left is the recording of the
refusal in the event that ends it (R92, R110; log 29). -/
def State.refusing (s : State) (code : RefusalCode) : State := s.toDo [.refuse code]

/-- A port's part of the open transfer discarded: its queued words leave the queue with it (R175). -/
def PortState.discardOpen (p : PortState) : PortState := { p with openT := none }

end Sys2Proof.Machine
end

