-- ==== Sys2Proof/Machine/Flags.lean ====
section
/-! DEFINITION. Fault records (spec 10): sticky flags, modes, conditions, the words FAULTS and the status
words show, and the ATN line. -/

namespace Sys2Proof.Machine

/-! ### Sticky flags (R194) -/

/-- One flag set. -/
def Sticky.set (k : Sticky) : Flag → Sticky
  | .parity => { k with parity := true }
  | .framing => { k with framing := true }
  | .overrun => { k with overrun := true }
  | .format => { k with format := true }
  | .owner => { k with owner := true }
  | .range => { k with range := true }
  | .overlap => { k with overlap := true }
  | .busy => { k with busy := true }
  | .timingLocked => { k with timingLocked := true }
  | .guarded => { k with guarded := true }
  | .clock => { k with clock := true }

/-- The flag is set. -/
def Sticky.has (k : Sticky) : Flag → Bool
  | .parity => k.parity
  | .framing => k.framing
  | .overrun => k.overrun
  | .format => k.format
  | .owner => k.owner
  | .range => k.range
  | .overlap => k.overlap
  | .busy => k.busy
  | .timingLocked => k.timingLocked
  | .guarded => k.guarded
  | .clock => k.clock

/-- Some flag is set. -/
def Sticky.any (k : Sticky) : Bool :=
  k.parity || k.framing || k.overrun || k.format || k.owner || k.range || k.overlap || k.busy ||
    k.timingLocked || k.guarded || k.clock

/-- The flag a refusal sets (R194). -/
def RefusalCode.flag : RefusalCode → Flag
  | .owner => .owner
  | .range => .range
  | .overlap => .overlap
  | .busy => .busy
  | .timingLocked => .timingLocked
  | .guarded => .guarded

/-- The number of a refusal code, 0 none (R188). -/
def refusalNumber : Option RefusalCode → Nat
  | none => 0
  | some .owner => 1
  | some .range => 2
  | some .overlap => 3
  | some .busy => 4
  | some .timingLocked => 5
  | some .guarded => 6

/-- The number of a mode (R209). -/
def FaultMode.number : FaultMode → Nat
  | .ignore => 0
  | .report => 1
  | .resumeFast => 2
  | .resumeSlow => 3
  | .latch => 4

/-- The mode a number names, if any (R207). -/
def modeOfNumber : Nat → Option FaultMode
  | 0 => some .ignore
  | 1 => some .report
  | 2 => some .resumeFast
  | 3 => some .resumeSlow
  | 4 => some .latch
  | _ => none

/-- The number of a condition (R209). -/
def Condition.number : Condition → Nat
  | .running => 0
  | .paused => 1
  | .halted => 2

/-! ### Fault events (R195) -/

/-- A condition and its retry timer after a RESUME event that starts the timer with `ms`: a HALTED port
stays HALTED with its timer stopped (R195). -/
def FaultRecord.pause (r : FaultRecord) (ms : Nat) : FaultRecord :=
  if r.condition = .halted then { r with retry := none }
  else { r with condition := .paused, retry := some ms }

/-- The flags of an event set (R195). -/
def FaultRecord.setFlags (r : FaultRecord) (flags : List Flag) : FaultRecord :=
  { r with sticky := flags.foldl Sticky.set r.sticky }

/-- What a mode does with a fault event that raises `flags` (R195). LATCH also removes every complete
engine transfer from the queue and leaves the open one. -/
def FaultMode.act (m : FaultMode) (flags : List Flag) (p : PortState) : PortState :=
  match m with
  | .ignore => p
  | .report => { p with faults := p.faults.setFlags flags }
  | .resumeFast => { p with faults := (p.faults.setFlags flags).pause Config.retryFast }
  | .resumeSlow => { p with faults := (p.faults.setFlags flags).pause Config.retrySlow }
  | .latch =>
    { p with
      faults := { p.faults.setFlags flags with condition := .halted, retry := none }
      queue := [] }

/-- A LINK fault event under the port's LINK mode (R179, R195). -/
def PortState.linkFault (p : PortState) (flags : List Flag) : PortState :=
  p.faults.linkMode.act flags p

/-- A REFUSE fault event under the port's REFUSE mode; the last refusal code is set under every mode
(R92, R195). -/
def PortState.refuse (p : PortState) (code : RefusalCode) : PortState :=
  let q := p.faults.refuseMode.act [code.flag] p
  { q with faults := { q.faults with lastRefusal := some code } }

/-- The CLOCK fault: always as REPORT (R205). -/
def PortState.clockFault (p : PortState) : PortState :=
  { p with faults := p.faults.setFlags [.clock] }

/-- What CLEAR and the WAKE clear pulse do to a port: CLOCK stays while the pixel clock is not LOCKED
(R199, R202). -/
def PortState.clearFaults (locked : Bool) (p : PortState) : PortState :=
  { p with
    faults :=
      { p.faults with
        sticky := { Sticky.clear with clock := p.faults.sticky.clock && !locked }
        lastRefusal := none
        condition := .running
        retry := none }
    clip := false }

/-- A refused command of port `x` records its code and does nothing else (R92). -/
def State.refuse (s : State) (x : Port) (code : RefusalCode) : State :=
  s.updPort x fun p => p.refuse code

/-! ### What the port shows (R187, R188, R198, R201, R209) -/

/-- The ATN line of a port is low (R201). -/
def State.atnLow (s : State) (x : Port) : Bool :=
  !s.ready x || (s.port x).faults.sticky.any

/-- DRAIN: nothing of the port is queued whole or in flight, and it does not wait (R114). -/
def State.drain (s : State) (x : Port) : Bool :=
  (s.port x).queue.isEmpty && !(s.port x).waiting &&
    match s.flight with
    | some f => f.port ≠ x
    | none => true

/-- Status word A (R187, R209). -/
def State.statusA (s : State) (x : Port) : Word :=
  let p := s.port x
  mkWord
    (bitOf p.faults.sticky.any 14 + bitOf (p.faults.condition = .halted) 13 +
      bitOf (p.faults.condition = .paused) 12 + bitOf (s.drain x) 11 +
      bitOf p.faults.sticky.clock 10 + bitOf p.clip 9 + p.reply.length % 128)

/-- Status word B (R188, R209). -/
def State.statusB (s : State) (x : Port) : Word :=
  let p := s.port x
  mkWord (refusalNumber p.faults.lastRefusal * 4096 + p.freeWords)

/-- Fault word 1 (R209). -/
def Sticky.contents (k : Sticky) : Nat :=
  bitOf k.clock 10 + bitOf k.guarded 9 + bitOf k.timingLocked 8 + bitOf k.busy 7 +
    bitOf k.overlap 6 + bitOf k.range 5 + bitOf k.owner 4 + bitOf k.format 3 + bitOf k.overrun 2 +
    bitOf k.framing 1 + bitOf k.parity 0

/-- The three words FAULTS appends (R198, R209). -/
def FaultRecord.words (r : FaultRecord) : List Word :=
  [mkWord r.sticky.contents,
   mkWord (r.condition.number * 64 + r.refuseMode.number * 8 + r.linkMode.number),
   mkWord (refusalNumber r.lastRefusal)]

/-- The four words IDENT appends: vendor, part, revision, plane size in units of 1,024 cells (R185). -/
def identWords : List Word := [mkWord 19217, mkWord 2316, mkWord 1, mkWord 32]

end Sys2Proof.Machine
end

