-- ==== Sys2Proof/Machine/Operands.lean ====
section
/-! DEFINITION. How commands and scan-out name cells: regions, the logical-row map, clipped extents and
the orders in which a command visits its cells. -/

namespace Sys2Proof.Machine

/-! ### Addresses (R2, R3, R41) -/

/-- The number of lines in the ring proper, L − F. -/
def PaneView.ringSize (v : PaneView) : Nat := v.ringLines - v.frozen

/-- Rows of the scrolling area, V = height − F. -/
def PaneView.scrollRows (v : PaneView) : Nat := v.height - v.frozen

/-- The line at position `k` round the ring from the top line (R41). -/
def PaneView.ringLine (v : PaneView) (k : Nat) : Nat :=
  v.frozen + ((v.top - v.frozen) + k) % v.ringSize

/-- The line a logical row maps to (R41). -/
def PaneView.lineOf (v : PaneView) (row : Nat) : Nat :=
  if row < v.frozen then row else v.ringLine (row - v.frozen)

/-- The entering line (R50). -/
def PaneView.entering (v : PaneView) : Nat := v.ringLine v.scrollRows

/-- The address of column `col` of a line (R2). -/
def PaneView.lineAddr (v : PaneView) (line col : Nat) : Nat :=
  v.base + line * v.pitch + col

/-- The address of the cell at (col, row) (R41). -/
def PaneView.cellAddr (v : PaneView) (col row : Nat) : Nat :=
  v.lineAddr (v.lineOf row) col

/-- The address past the region's last (R3). -/
def PaneView.regionEnd (v : PaneView) : Nat := v.base + v.pitch * v.ringLines

/-- Two regions share a cell (R19). -/
def PaneView.meets (v w : PaneView) : Bool :=
  v.base < w.regionEnd && w.base < v.regionEnd

/-! ### Extents -/

/-- How many of `n` positions from `start` lie below `bound`. -/
def clipped (start n bound : Nat) : Nat := min (start + n) bound - start

/-- The cells of a rectangle, rows from top to bottom, each from left to right, as (col, row) (R94). -/
def rectCells (col row w h : Nat) : List (Nat × Nat) :=
  (List.range h).flatMap fun j => (List.range w).map fun i => (col + i, row + j)

/-- A rectangle's clipped cells in a pane (R97). -/
def PaneView.clippedCells (v : PaneView) (col row w h : Nat) : List (Nat × Nat) :=
  rectCells col row (clipped col w v.width) (clipped row h v.height)

/-- The clipping of a rectangle that is not empty removes a column or a row (R97). -/
def PaneView.cuts (v : PaneView) (col row w h : Nat) : Bool :=
  w ≠ 0 && h ≠ 0 && (v.width < col + w || v.height < row + h)

/-- The offsets of a SHIFT's copy, as (column, row), in the order R100 gives: rows from the bottom when
it moves down, columns from the right when it moves right within its rows. -/
def shiftOffsets (srow scol drow dcol w h : Nat) : List (Nat × Nat) :=
  let rows := if srow < drow then (List.range h).reverse else List.range h
  let cols := if drow = srow ∧ scol < dcol then (List.range w).reverse else List.range w
  rows.flatMap fun j => cols.map fun i => (i, j)

end Sys2Proof.Machine
end

