-- ==== Sys2Proof/Machine/Panes.lean ====
section
/-! DEFINITION. What the engine does with the commands of spec 02: pane records, ownership and the stack,
and what a frame start does there. -/

namespace Sys2Proof.Machine

/-- The issuing port owns the pane (R18). -/
def State.owns (s : State) (x : Port) (p : PaneId) : Bool := (s.pane p).owner = some x

/-! ### The stack (R32-R36) -/

/-- The pane's working pinned flag. -/
def State.isPinned (s : State) (p : PaneId) : Bool := (s.pane p).pinned

/-- The working stack without one pane. -/
def State.stackWithout (s : State) (p : PaneId) : List PaneId := s.stack.erase p

/-- The boundary place: behind the pinned panes and ahead of the unpinned ones (R34-R36). -/
def State.atBoundary (s : State) (p : PaneId) : List PaneId :=
  (s.stackWithout p).takeWhile s.isPinned ++ p :: (s.stackWithout p).dropWhile s.isPinned

/-- One element put directly behind another. -/
def insertBehind (p q : PaneId) : List PaneId → List PaneId
  | [] => [p]
  | h :: t => if h = q then h :: p :: t else h :: insertBehind p q t

/-- The order after RAISE (R34). -/
def State.raised (s : State) (p : PaneId) : List PaneId :=
  if s.isPinned p then p :: s.stackWithout p else s.atBoundary p

/-- The order after LOWER (R35). -/
def State.lowered (s : State) (p : PaneId) : List PaneId :=
  if s.isPinned p then s.atBoundary p else s.stackWithout p ++ [p]

/-- The order after BEHIND (R36): directly behind q within one group, else at the boundary, which is
the back of the pinned group for a pinned p and the front of the unpinned group for an unpinned p. -/
def State.putBehind (s : State) (p q : PaneId) : List PaneId :=
  if p = q then s.stack
  else if s.isPinned p = s.isPinned q then insertBehind p q (s.stackWithout p)
  else s.atBoundary p

/-! ### Regions and definition (R19-R21) -/

/-- The overlap check of port `x` and a candidate region fails: it meets the working region of a
defined pane that another port owns (R19). -/
def State.overlaps (s : State) (x : Port) (v : PaneView) : Bool :=
  (List.finRange 16).any fun q =>
    (s.pane q).defined && (s.pane q).owner.isSome && !((s.pane q).owner = some x) &&
      v.meets (s.pane q).view

/-- The geometry fails a range check of DEFINE (R20). -/
def Geometry.outOfRange (g : Geometry) : Bool :=
  319 < g.originCol || 179 < g.originRow || g.width = 0 || 320 < g.width || g.height = 0 ||
    180 < g.height || g.pitch = 0 || 320 < g.pitch || (15 < g.underline && g.underline ≠ 31) ||
    g.pitch < g.width || g.ringLines < g.height || g.height < g.frozen ||
    Config.planeSize < g.base + g.pitch * g.ringLines

/-- The view part a DEFINE that is taken writes (R21). -/
def Geometry.view (g : Geometry) (old : PaneView) : PaneView where
  state := if old.state = .undefined then .hidden else old.state
  stale := false
  originCol := g.originCol
  originRow := g.originRow
  width := g.width
  height := g.height
  base := g.base
  pitch := g.pitch
  ringLines := g.ringLines
  frozen := g.frozen
  top := g.frozen
  fine := 0
  underlineRow := if g.underline = 31 then none else some g.underline

/-- The working record a DEFINE that is taken leaves: owner and hold are kept (R21). -/
def Geometry.record (g : Geometry) (old : Pane) : Pane :=
  { old with
    view := Geometry.view g old.view
    pinned := g.pinned
    fill := ⟨g.fillCode, g.fillAttr⟩ }

/-- DEFINE (R18, R20, R21). -/
def engineDefine (x : Port) (p : PaneId) (g : Geometry) (s : State) : State :=
  if !s.owns x p then s.refusing .owner
  else if Geometry.outOfRange g then s.refusing .range
  else if s.overlaps x (Geometry.view g (s.pane p).view) then s.refusing .overlap
  else
    { s.setPane p (Geometry.record g (s.pane p)) with
      stack := if g.pinned = s.isPinned p then s.stack else s.atBoundary p }

/-! ### Showing, hiding, dropping (R23-R25) -/

/-- SHOW (R23). -/
def engineShow (x : Port) (p : PaneId) (s : State) : State :=
  if !s.owns x p then s.refusing .owner
  else if !(s.pane p).defined then s.refusing .range
  else s.setView p { (s.pane p).view with state := .shown, stale := false }

/-- HIDE (R24). -/
def engineHide (x : Port) (p : PaneId) (s : State) : State :=
  if !s.owns x p then s.refusing .owner
  else if !(s.pane p).defined then s.refusing .range
  else s.setView p { (s.pane p).view with state := .hidden }

/-- DROP (R25). -/
def engineDrop (x : Port) (p : PaneId) (s : State) : State :=
  if !s.owns x p then s.refusing .owner
  else
    { s.setPane p
        { s.pane p with view := { (s.pane p).view with state := .undefined }, pinned := false } with
      stack := s.stackWithout p ++ [p] }

/-! ### Ownership (R26-R30) -/

/-- CLAIM (R26). -/
def engineClaim (x : Port) (p : PaneId) (s : State) : State :=
  match (s.pane p).owner with
  | some y => if y = x then s else s.refusing .busy
  | none =>
    if (s.pane p).hold.isSome && !((s.pane p).hold = some x) then s.refusing .busy
    else if (s.pane p).defined && s.overlaps x (s.pane p).view then s.refusing .overlap
    else s.setPane p { s.pane p with owner := some x, hold := none }

/-- The record of a released pane (R27, R30). -/
def Pane.released (r : Pane) (x : Port) : Pane :=
  { r with view := { r.view with stale := true }, owner := none, hold := some x }

/-- The working cursor turned off with its holder cleared; its other fields are kept (R145). -/
def State.cursorOff (s : State) : State :=
  { s with cursor := { s.cursor with mode := .off }, holder := none }

/-- RELEASE (R27). -/
def engineRelease (x : Port) (p : PaneId) (s : State) : State :=
  if !s.owns x p then s.refusing .owner
  else
    let t := s.setPane p (Pane.released (s.pane p) x)
    if s.cursor.pane = p && s.cursor.mode ≠ .off then t.cursorOff else t

/-- Every pane port `x` owns is released, in one event (R30). -/
def State.releaseAll (s : State) (x : Port) : State :=
  { s with panes := s.panes.map fun r => if r.owner = some x then r.released x else r }

/-! ### The stack commands (R34-R36) -/

/-- RAISE (R34). -/
def engineRaise (x : Port) (p : PaneId) (s : State) : State :=
  if !s.owns x p then s.refusing .owner else { s with stack := s.raised p }

/-- LOWER (R35). -/
def engineLower (x : Port) (p : PaneId) (s : State) : State :=
  if !s.owns x p then s.refusing .owner else { s with stack := s.lowered p }

/-- BEHIND (R36). -/
def engineBehind (x : Port) (p q : PaneId) (s : State) : State :=
  if !s.owns x p then s.refusing .owner else { s with stack := s.putBehind p q }

/-! ### The frame start (R17, R28, R33) -/

/-- The pane table and the stack at a frame start: the displayed copies are taken and every hold is
cleared. -/
def State.latchPanes (s : State) : State :=
  { s with
    shownPanes := s.panes.map Pane.view
    panes := s.panes.map fun r => { r with hold := none }
    shownStack := s.stack }

/-! ### Power-on owners (R31) -/

/-- The owner the OSEL strap gives a pane. -/
def ownerFor (osel : Fin 4) (p : Nat) : Option Port :=
  match osel with
  | 0 => none
  | 1 => some .a
  | 2 => if p < 8 then some .a else some .b
  | 3 => if p < 6 then some .a else if p < 12 then some .b else some .c

end Sys2Proof.Machine
end

