-- ==== Sys2Proof/Machine/Scroll.lean ====
section
/-! DEFINITION. The scroll commands of spec 03: SET_TOP, and the steps of ROLL and LOG. -/

namespace Sys2Proof.Machine

/-- SET_TOP (R46): the checks, then T and s in one event. -/
def engineSetTop (x : Port) (p : PaneId) (top fine : Nat) (s : State) : State :=
  let v := (s.pane p).view
  if !s.owns x p then s.refusing .owner
  else if !(s.pane p).defined then s.refusing .range
  else if v.frozen < v.ringLines && (top < v.frozen || v.ringLines ≤ top) then s.refusing .range
  else if v.ringLines = v.frozen && top ≠ v.frozen then s.refusing .range
  else s.setView p { v with top := top, fine := fine }

/-- The steps that clear a line whole, from its first address to its last (R48). -/
def clearSteps (v : PaneView) (line : Nat) : List Micro :=
  (List.range v.pitch).map fun col => .clearCell line col

/-- The count a ROLL moves by: |k| clamped to the ring size (R47). -/
def rollBy (v : PaneView) (k : Int) : Nat := min k.natAbs v.ringSize

/-- The steps of a forward ROLL with its clear option: the entering lines, then the top line (R48). -/
def rollSteps (v : PaneView) (c : Nat) : List Micro :=
  ((List.range c).flatMap fun i => clearSteps v (v.ringLine (v.scrollRows + i))) ++ [.advance c]

/-- The top line moved forward by `c` lines round the ring; a pane with no ring proper keeps it (R42,
R49). -/
def PaneView.advanced (v : PaneView) (c : Nat) : PaneView :=
  if v.frozen < v.ringLines then { v with top := v.ringLine c } else v

/-- The steps of LOG: the entering line cleared, the codes below the width, the others discarded, then
the top line (R51). -/
def logSteps (v : PaneView) (attr : Attr) (codes : List Code) : List Micro :=
  clearSteps v v.entering ++
    ((codes.take v.width).zipIdx.map fun e => .text v.entering e.2 ⟨e.1, attr⟩) ++
    (if v.width < codes.length then [.discard] else []) ++ [.advance 1]

end Sys2Proof.Machine
end

