-- ==== Sys2Proof/Machine/Cells.lean ====
section
/-! DEFINITION. The cell commands of spec 05: the steps of PLACE, SWEEP, SHIFT, TINT and READ_CELLS. -/

namespace Sys2Proof.Machine

/-- The steps of PLACE: code i at column col + i, for the columns below the width (R95, R96). -/
def placeSteps (v : PaneView) (row col : Nat) (attr : Attr) (codes : List Code) : List Micro :=
  (codes.take (v.width - col)).zipIdx.map fun e => .put (col + e.2) row ⟨e.1, attr⟩ false

/-- The steps of SWEEP (R97, R98). -/
def sweepSteps (v : PaneView) (row col w h : Nat) (cell : Cell) (override : Bool) : List Micro :=
  (v.clippedCells col row w h).map fun e => .put e.1 e.2 cell override

/-- The width of a SHIFT's copy (R99). -/
def shiftWidth (v : PaneView) (scol dcol w : Nat) : Nat :=
  min w (min (v.width - scol) (v.width - dcol))

/-- The height of a SHIFT's copy (R99). -/
def shiftHeight (v : PaneView) (srow drow h : Nat) : Nat :=
  min h (min (v.height - srow) (v.height - drow))

/-- The steps of SHIFT: each source cell is read just before its destination is written (R100). -/
def shiftSteps (v : PaneView) (srow scol drow dcol w h : Nat) : List Micro :=
  (shiftOffsets srow scol drow dcol (shiftWidth v scol dcol w) (shiftHeight v srow drow h)).flatMap
    fun e => [.load (scol + e.1) (srow + e.2), .store (dcol + e.1) (drow + e.2)]

/-- The steps of TINT; a mask that selects no field visits no cell (R102). -/
def tintSteps (v : PaneView) (row col w h : Nat) (attr : Attr) (mask : AttrMask) : List Micro :=
  if AttrMask.isEmpty mask then []
  else (v.clippedCells col row w h).map fun e => .tint e.1 e.2 attr mask

/-- The steps of READ_CELLS (R103, R104). -/
def readSteps (v : PaneView) (row col n : Nat) : List Micro :=
  (List.range (clipped col n v.width)).map fun i => .read (col + i) row

/-- The two reply words of a cell: the code word and the attribute word (R104, R209). -/
def cellWords (c : Cell) : List Word := [mkWord c.code.val, mkWord (attrContents c.attr)]

end Sys2Proof.Machine
end

