-- ==== Sys2Proof/Machine/Glyphs.lean ====
section
/-! DEFINITION. The glyph store (spec 06): bitmaps and the words that carry them, ROM and RAM glyphs, patch
slots, and the glyph commands. -/

namespace Sys2Proof.Machine

/-! ### Bitmaps and row-pair words (R115, R210) -/

/-- A glyph row from pixels 0-6, as a number with pixel 6 least, and pixel 7. -/
def glyphRow (left right : Nat) : BitVec 8 := BitVec.ofNat 8 (left % 128 * 2 + right % 2)

/-- The two rows a row-pair word carries: pixel 7 of both is its bit 0 (R210). -/
def pairRows (w : BitVec 15) : List (BitVec 8) :=
  [glyphRow (w.toNat / 256) w.toNat, glyphRow (w.toNat / 2) w.toNat]

/-- The bitmap eight row-pair words load (R115, R210). -/
def bitmapOf (rows : RowPairs) : Bitmap :=
  Vector.ofFn fun i : Fin 16 => (pairRows (rows[i.val / 2]'(by omega)))[i.val % 2]?.getD 0

/-- The contents of the word that carries rows `even` and `odd`: bit 0 is set when pixel 7 of either is
on (R210). -/
def pairContents (even odd : BitVec 8) : Nat :=
  even.toNat / 2 * 256 + odd.toNat / 2 * 2 + if even.toNat % 2 = 1 ∨ odd.toNat % 2 = 1 then 1 else 0

/-- The eight words that read a bitmap back, rows 0 and 1 first, given its rows (R126, R210). -/
def readBackWords (row : Nat → BitVec 8) : List Word :=
  (List.range 8).map fun i => mkWord (pairContents (row (2 * i)) (row (2 * i + 1)))

/-- Row `k` of a stored bitmap. -/
def Bitmap.row (b : Bitmap) (k : Nat) : BitVec 8 := b[k]?.getD 0

/-- Pixel `i` of a glyph row is on; pixel 0 is the left one (R115). -/
def pixelOn (row : BitVec 8) (i : Nat) : Bool := row.toNat.testBit (7 - i)

/-! ### ROM and RAM glyphs (R13, R115) -/

/-- Pixel `i` of row `k` of a ROM glyph: codes 0-32 are blank and 127 is the full block (R13); row 10 of
'5' has pixel 5 on (spec 08, section 8.8); every other pixel is a free value (log 7, log 23). -/
def romPixel (code k i : Nat) : Bool :=
  if code ≤ 32 then false
  else if code = 127 then true
  else if code = 53 ∧ k = 10 ∧ i = 5 then true
  else pixelOn (Config.romRow code k) i

/-- Row `k` of a ROM glyph. -/
def romRow (code k : Nat) : BitVec 8 :=
  BitVec.ofNat 8 ((List.range 8).map fun i => bitOf (romPixel code k i) (7 - i)).sum

/-- Row `k` of the unpatched glyph of a code (R115, R126). -/
def State.unpatchedRow (s : State) (code : Code) (k : Nat) : BitVec 8 :=
  if code.val < 384 then romRow code.val k
  else Bitmap.row (s.ramGlyphs[code.val - 384]?.getD Bitmap.blank) k

/-- The enabled slot that names a code, if any (R120, R124). -/
def State.slotFor (s : State) (code : Code) : Option Slot :=
  s.slots.toList.find? fun t => t.enabled && t.code = code

/-- Pixel `i` of the glyph row scan-out draws for a code: of the enabled slot that names a ROM code, else
of the ROM or the RAM glyph (R124). -/
def State.glyphPixel (s : State) (code : Code) (k i : Nat) : Bool :=
  if code.val < 384 then
    match s.slotFor code with
    | some t => pixelOn (Bitmap.row t.bitmap k) i
    | none => romPixel code.val k i
  else pixelOn (s.unpatchedRow code k) i

/-- The glyph row scan-out fetches for a code, its 8 pixels left to right (R124). -/
def State.glyphRow (s : State) (code : Code) (k : Nat) : Vector Bool 8 :=
  Vector.ofFn fun i : Fin 8 => s.glyphPixel code k i.val

/-- The rows of the bitmap READ_GLYPH reads: a slot's, or the unpatched glyph of a code (R126). -/
def State.chosenRow (s : State) (slotOption : Bool) (slot : Fin 16) (code : Code) (k : Nat) :
    BitVec 8 :=
  if slotOption then Bitmap.row ((s.slots[slot.val]?.map Slot.bitmap).getD Bitmap.blank) k
  else s.unpatchedRow code k

/-! ### The commands (R119-R123, R126) -/

/-- GLYPH (R119). -/
def engineGlyph (code : Code) (rows : RowPairs) (s : State) : State :=
  if code.val < 384 then s.refusing .range
  else { s with ramGlyphs := s.ramGlyphs.setIfInBounds (code.val - 384) (bitmapOf rows) }

/-- A slot other than `slot` that is enabled on the code is disabled (R120, R122). -/
def disableRivals (slots : Vector Slot 8) (slot : Nat) (code : Code) : Vector Slot 8 :=
  slots.mapFinIdx fun i t _ =>
    if i ≠ slot ∧ t.code = code then { t with enabled := false } else t

/-- PATCH (R120). -/
def enginePatch (slot : Fin 16) (code : Code) (rows : RowPairs) (s : State) : State :=
  if h : slot.val < 8 then
    if 383 < code.val then s.refusing .range
    else
      { s with
        slots := (disableRivals s.slots slot.val code).set slot.val ⟨code, true, bitmapOf rows⟩ h }
  else s.refusing .range

/-- PATCH_ROWS (R121). -/
def enginePatchRows (slot : Fin 16) (rows : RowPairs) (s : State) : State :=
  if h : slot.val < 8 then
    { s with slots := s.slots.set slot.val { s.slots[slot.val] with bitmap := bitmapOf rows } h }
  else s.refusing .range

/-- PATCH_CODE (R122). -/
def enginePatchCode (slot : Fin 16) (code : Code) (s : State) : State :=
  if h : slot.val < 8 then
    if 383 < code.val then s.refusing .range
    else
      { s with
        slots := (disableRivals s.slots slot.val code).set slot.val
          { s.slots[slot.val] with code := code, enabled := true } h }
  else s.refusing .range

/-- UNPATCH (R123). -/
def engineUnpatch (slot : Fin 16) (s : State) : State :=
  if h : slot.val < 8 then
    { s with slots := s.slots.set slot.val { s.slots[slot.val] with enabled := false } h }
  else s.refusing .range

/-- READ_GLYPH (R126, R127): its check; the read of the bitmap is its one step (log 30). -/
def engineReadGlyph (slotOption : Bool) (slot : Fin 16) (code : Code) (s : State) : State :=
  if slotOption && 7 < slot.val then s.refusing .range
  else s.toDo [.readBitmap slotOption slot code]

end Sys2Proof.Machine
end

