-- ==== Sys2Proof/Machine/Tick.lean ====
section
/-! DEFINITION. Tick writes (spec 04): reading a field as a number, judging the change, the steps of TICK
and its mark event. -/

namespace Sys2Proof.Machine

/-! ### A text as a price (R62, R63) -/

/-- The code is a digit, 48-57. -/
def isDigit (c : Nat) : Bool := 48 ≤ c && c ≤ 57

/-- The leading and trailing spaces dropped (R62). -/
def trim (t : List Nat) : List Nat :=
  ((t.dropWhile (· = 32)).reverse.dropWhile (· = 32)).reverse

/-- Every comma of an integer part stands directly between two digits; `prev` says that the code
before is a digit (R62). -/
def commasGood : Bool → List Nat → Bool
  | _, [] => true
  | prev, c :: rest =>
    if c = 44 then
      prev && (match rest with | [] => false | d :: _ => isDigit d) && commasGood false rest
    else commasGood true rest

/-- The number a list of digit codes spells. -/
def digitsValue (ds : List Nat) : Nat := ds.foldl (fun v d => v * 10 + (d - 48)) 0

/-- The integer part, then an optional point and fraction: the unsigned mantissa and the scale; none
when the text has not that form or has no digit (R62, R63). -/
def parseUnsigned (t : List Nat) : Option (Nat × Nat) :=
  let whole := t.takeWhile fun c => isDigit c || c = 44
  let number (frac : List Nat) : Option (Nat × Nat) :=
    let digits := whole.filter isDigit ++ frac
    if commasGood false whole && frac.all isDigit && !digits.isEmpty then
      some (digitsValue digits, frac.length)
    else none
  match t.dropWhile fun c => isDigit c || c = 44 with
  | [] => number []
  | c :: frac => if c = 46 then number frac else none

/-- A text as a price: the signed mantissa and the scale, or none for NaN (R62, R63). -/
def parsePrice (t : List Nat) : Option (Int × Nat) :=
  match trim t with
  | [] => none
  | c :: rest =>
    if c = 43 then (parseUnsigned rest).map fun v => ((v.1 : Int), v.2)
    else if c = 45 then (parseUnsigned rest).map fun v => (-(v.1 : Int), v.2)
    else (parseUnsigned (c :: rest)).map fun v => ((v.1 : Int), v.2)

/-! ### The judgment (R64-R66, R68) -/

/-- The old and the new value brought to one scale (R66). -/
def aligned (old new : Int × Nat) : Int × Int :=
  (old.1 * 10 ^ (new.2 - old.2), new.1 * 10 ^ (old.2 - new.2))

/-- The result of a TICK: none is SAME (R64-R66). -/
def judge (old new : List Code) : Option Direction :=
  if old = new then none
  else
    match parsePrice (old.map Fin.val), parsePrice (new.map Fin.val) with
    | some o, some n =>
      let v := aligned o n
      if v.1 < v.2 then some .up else if v.2 < v.1 then some .down else none
    | _, _ => some .neutral

/-- The first changed position (R68). -/
def firstChange : List Code → List Code → Nat
  | o :: os, n :: ns => if o = n then firstChange os ns + 1 else 0
  | _, _ => 0

/-- The arrow code of a result (R70). -/
def arrowCode : Option Direction → Code
  | some .up => 286
  | some .down => 287
  | some .neutral => 32
  | none => 32

/-! ### The mark event (R69, R73, R74) -/

/-- The ramp of a direction. -/
def Ramp.dir (r : Ramp) : Direction → DirRamp
  | .up => r.up
  | .down => r.down
  | .neutral => r.neutral

/-- Stage `k` of a direction's ramp. -/
def DirRamp.stage (d : DirRamp) (k : Nat) : RampStage := d.stages[k]?.getD RampStage.unused

/-- The record a TICK makes over the field from address `a`: with the digit option, the cells from the
first changed position on (R69, R74). -/
def newMark (ramp : Ramp) (a : Nat) (old new : List Code) (dir : Direction) (digit : Bool) : Mark :=
  let k := if digit then firstChange old new else 0
  { start := a + k
    length := new.length - k
    dir := dir
    stage := 0
    left := ((Ramp.dir ramp dir).stage 0).duration }

/-- The mark event: the records over the field go, the head goes if the table is still full, the new
record joins at the tail (R73). -/
def recordMark (marks : List Mark) (a n : Nat) (m : Mark) : List Mark :=
  let kept := marks.filter fun r => !r.meets a n
  (if Config.maxMarks ≤ kept.length then kept.tail else kept) ++ [m]

/-! ### The steps of TICK (R60) -/

/-- The steps of TICK: the reads, the code writes, the mark event, the arrow write (R60, R61, R67,
R70). -/
def tickSteps (row col : Nat) (codes : List Code) (digit arrow : Bool) : List Micro :=
  ((List.range codes.length).map fun i => .readOld (col + i) row) ++
    (codes.zipIdx.map fun e => .putCode (col + e.2) row e.1) ++
    [.markEvent col row codes digit] ++
    if arrow && col ≠ 0 then [.arrow (col - 1) row codes] else []

/-- A TICK whose result is SAME has no mark event (R60, R67). -/
def dropIdleMark (old : List Code) : List Micro → List Micro
  | .markEvent col row new digit :: rest =>
    if judge old new = none then rest else .markEvent col row new digit :: rest
  | todo => todo

end Sys2Proof.Machine
end

