-- ==== Sys2Proof/Machine/Colour.lean ====
section
/-! DEFINITION. The colour unit (spec 07): palette, ramp, stale colour, blink timer and cursor, the ageing
of marks (spec 04, 4.7), and what a frame start does with them. -/

namespace Sys2Proof.Machine

/-! ### Palette, ramp, stale colour (R130, R133, R135) -/

/-- PALETTE (R130). -/
def enginePalette (i : Index) (r g b : Nat) (s : State) : State :=
  { s with palette := s.palette.set i.val ⟨r, g, b⟩ i.isLt }

/-- The direction a RAMP names; the fourth value names none (R133). -/
def directionOf (d : Fin 4) : Option Direction :=
  match d with
  | 0 => some .up
  | 1 => some .down
  | 2 => some .neutral
  | 3 => none

/-- A ramp with one direction's part replaced. -/
def Ramp.setDir (r : Ramp) (dir : Direction) (d : DirRamp) : Ramp :=
  match dir with
  | .up => { r with up := d }
  | .down => { r with down := d }
  | .neutral => { r with neutral := d }

/-- One stage and the count of a direction set (R133). -/
def DirRamp.withStage (d : DirRamp) (k : Nat) (st : RampStage) (count : Nat) : DirRamp :=
  { count := count, stages := d.stages.setIfInBounds k st }

/-- RAMP (R133): a duration of 0 is taken as 1, a count of 0 as 1 and a count above 4 as 4. -/
def engineRamp (dir : Fin 4) (stage : Fin 16) (fg bg : StageColour)
    (duration count : Nat) (s : State) : State :=
  match directionOf dir with
  | none => s.refusing .range
  | some d =>
    if 3 < stage.val then s.refusing .range
    else
      { s with
        ramp := s.ramp.setDir d
          ((s.ramp.dir d).withStage stage.val ⟨fg, bg, max 1 duration⟩ (min 4 (max 1 count))) }

/-- STALE_COLOUR (R135). -/
def engineStaleColour (i : Index) (s : State) : State := { s with staleColour := i }

/-! ### The blink timer (R136-R138) -/

/-- A BLINK argument as it is taken: clamped to 2-254, then made even (R138). -/
def blinkPeriod (period : Nat) : Nat := min 254 (max 2 period) / 2 * 2

/-- BLINK (R138). -/
def engineBlink (period : Nat) (s : State) : State :=
  { s with blink := { s.blink with pending := some (blinkPeriod period) } }

/-- The toggle: the phase changes, the counter starts again and a pending period is latched (R137). -/
def BlinkTimer.toggle (t : BlinkTimer) : BlinkTimer where
  latch := t.pending.getD t.latch
  pending := none
  counter := 0
  phaseOn := !t.phaseOn

/-- The timer at a frame start: one more frame, and the toggle when half the period is reached (R137). -/
def BlinkTimer.frame (t : BlinkTimer) : BlinkTimer :=
  if t.counter + 1 = t.latch / 2 then t.toggle else { t with counter := t.counter + 1 }

/-! ### The cursor (R140-R143) -/

/-- The mode a CURSOR names; the fourth value names none (R141). -/
def cursorModeOf (m : Fin 4) : Option CursorMode :=
  match m with
  | 0 => some .off
  | 1 => some .steady
  | 2 => some .blink
  | 3 => none

/-- CURSOR (R141, R142). -/
def engineCursor (x : Port) (p : PaneId) (row col startScan endScan : Nat) (mode : Fin 4)
    (s : State) : State :=
  if !s.owns x p then s.refusing .owner
  else
    match cursorModeOf mode with
    | none => s.refusing .range
    | some m =>
      if s.cursor.mode ≠ .off && s.holder ≠ some x then s.refusing .busy
      else
        { s with
          cursor := ⟨p, row, col, startScan, endScan, m⟩
          holder := if m = .off then none else some x }

/-! ### Mark ageing (R77) -/

/-- A record after its last frame in a stage: none when it is removed, else the next stage with that
stage's duration (R77, step 3). -/
def Mark.nextStage (d : DirRamp) (m : Mark) : Option Mark :=
  if d.count ≤ m.stage + 1 then none
  else some { m with stage := m.stage + 1, left := (d.stage (m.stage + 1)).duration }

/-- One record aged at a frame start; none when it is removed (R77). -/
def Mark.aged (ramp : Ramp) (m : Mark) : Option Mark :=
  let d := ramp.dir m.dir
  if d.count ≤ m.stage then none
  else if m.left - 1 = 0 then m.nextStage d
  else some { m with left := m.left - 1 }

/-- Every record aged against the displayed ramp; the records that remain keep their order (R77). -/
def State.ageMarks (s : State) : State :=
  { s with marks := s.marks.filterMap (Mark.aged s.shownRamp) }

/-! ### The frame start (R131, R143) -/

/-- The palette, the ramp and the stale colour latched in one event (R131). -/
def State.latchColours (s : State) : State :=
  { s with
    shownPalette := s.palette
    shownRamp := s.ramp
    shownStaleColour := s.staleColour }

/-- The colour unit's latch and the ageing of marks, in either order (R78). -/
def State.latchAndAge (s : State) : LatchOrder → State
  | .latchFirst => s.latchColours.ageMarks
  | .ageFirst => s.ageMarks.latchColours

/-- The cursor latched (R143). -/
def State.latchCursor (s : State) : State := { s with shownCursor := s.cursor }

/-- The blink timer at a frame start (R137). -/
def State.blinkFrame (s : State) : State := { s with blink := s.blink.frame }

end Sys2Proof.Machine
end

