-- ==== Sys2Proof/Machine/Raster.lean ====
section
/-! DEFINITION. The raster (spec 08, 8.1-8.4): timing and its lock, the pixel clock, and the frame start
with every block's action at it. -/

namespace Sys2Proof.Machine

/-! ### TIMING and LOCK (R154, R155) -/

/-- A TIMING height as it is taken (R154). -/
def cellHeight (height : Nat) : Nat := min 16 (max 8 height)

/-- TIMING (R154). -/
def engineTiming (preset : Fin 4) (height : Nat) (s : State) : State :=
  if s.timingLock then s.refusing .timingLocked
  else { s with timing := ⟨preset, cellHeight height⟩ }

/-- LOCK (R155). -/
def engineLock (s : State) : State := { s with timingLock := true }

/-! ### The frame start (R152, R153) -/

/-- Frames run: the clock is LOCKED and the power-on clear has completed (R149, R151). -/
def State.framesRun (s : State) : Bool := s.clock = .locked && s.phase = .running

/-- The working timing applied; a new preset sends the clock to LOCKING with no fault (R153). -/
def State.latchTiming (s : State) : State :=
  { s with
    shownTiming := s.timing
    clock := if s.timing.preset = s.shownTiming.preset then s.clock else .locking }

/-- Every port's waiting flag cleared (R105). -/
def State.clearWaiting (s : State) : State :=
  { s with ports := s.ports.map fun p => { p with waiting := false } }

/-- Another frame start counted: what follows is another picture (log 32). -/
def State.countFrame (s : State) : State := { s with frameCount := s.frameCount + 1 }

/-- A frame start: every block's action at it (R152). -/
def State.frameStart (s : State) (order : LatchOrder) : State :=
  (((s.latchPanes.latchAndAge order).latchCursor.blinkFrame).clearWaiting).latchTiming.countFrame

/-! ### Events of the raster -/

/-- FRAME_START: the start of a vertical blanking interval. None comes while no frames run (R152). -/
def onFrameStart (order : LatchOrder) (s : State) : State :=
  if s.framesRun then s.frameStart order else s

/-- CLOCK_LOCK_ACHIEVED: a LOCKING clock goes to LOCKED, and begins a run of frames with a frame start
once the power-on clear has completed (R149, R151, R152). -/
def onLockAchieved (order : LatchOrder) (s : State) : State :=
  if s.clock = .locking then onFrameStart order { s with clock := .locked } else s

/-- LOSS_OF_LOCK: a LOCKED clock goes to LOCKING and CLOCK is raised in every port (R150, R205). -/
def onLossOfLock (s : State) : State :=
  if s.clock = .locked then
    { s with clock := .locking, ports := s.ports.map PortState.clockFault }
  else s

/-- The order of the latch and the ageing at a frame start whose row does not give it: a free value, one for
each frame start (R78; log 5). -/
def State.freeOrder (s : State) : LatchOrder :=
  if Config.latchesFirst s.frameCount then .latchFirst else .ageFirst

/-- MARK_STAGE_EXPIRY: the frame start at which the frames left of the record at `place` reach 0. Ageing
comes at frame starts alone and with it every block's action, so the row is that frame start (R77, R152;
log 6). With no record there whose frames left are at their end there is no such event (log 4). -/
def onStageExpiry (place : Nat) (s : State) : State :=
  match s.marks[place]? with
  | some m => if m.left ≤ 1 then onFrameStart s.freeOrder s else s
  | none => s

/-- BLINK_TOGGLE: the frame start at which the blink counter reaches half the period latch. The phase
changes at frame starts alone and with it every block acts, so the row is that frame start (R137, R152,
R166, R169; log 6). Short of that count there is no such event (log 4). -/
def onBlinkToggle (s : State) : State :=
  if s.blink.counter + 1 = s.blink.latch / 2 then onFrameStart s.freeOrder s else s

end Sys2Proof.Machine
end

