-- ==== Sys2Proof/Machine/Engine.lean ====
section
/-! DEFINITION. The drawing engine and the arbiter (spec 05): the command in flight and its steps, what a
grant begins, eligibility and the rotation. -/

namespace Sys2Proof.Machine

/-! ### The end of a command (R87, R89) -/

/-- The command of port `x` completes: the command in flight is emptied and what is left of its
reservation is released (R87, R89). -/
def State.complete (s : State) (x : Port) : State :=
  { s with flight := none }.updPort x PortState.releaseReserved

/-- The command of port `x` completes when it has no step left (R87). -/
def State.completeIfDone (s : State) (x : Port) : State :=
  match s.flight with
  | some f => if f.todo.isEmpty then s.complete x else s
  | none => s

/-- A command taken with the steps it has: CLIP is set when its extent was cut (log 12). -/
def State.takeFlight (s : State) (x : Port) (cut : Bool) (todo : List Micro) : State :=
  (s.setClip x cut).toDo todo

/-! ### The first event of the commands that access cells: checks, then the steps (R92) -/

/-- ROLL (R47-R49). -/
def beginRoll (x : Port) (p : PaneId) (k : Int) (clear : Bool) (s : State) : State :=
  let v := (s.pane p).view
  if !s.owns x p then s.refusing .owner
  else if !(s.pane p).defined then s.refusing .range
  else if v.ringLines = v.frozen ∨ k = 0 then s
  else if 0 < k then
    if clear then s.takeFlight x false (rollSteps v (rollBy v k))
    else s.setView p (v.advanced (rollBy v k))
  else s.setView p (v.advanced (v.ringSize - rollBy v k))

/-- LOG (R50, R51). -/
def beginLog (x : Port) (p : PaneId) (attr : Attr) (codes : List Code) (s : State) : State :=
  let v := (s.pane p).view
  if !s.owns x p then s.refusing .owner
  else if !(s.pane p).defined then s.refusing .range
  else if v.ringLines = v.frozen then s.refusing .range
  else s.takeFlight x false (logSteps v attr codes)

/-- PLACE (R95, R96). -/
def beginPlace (x : Port) (p : PaneId) (row col : Nat) (attr : Attr) (codes : List Code)
    (s : State) : State :=
  let v := (s.pane p).view
  if !s.owns x p then s.refusing .owner
  else if !(s.pane p).defined then s.refusing .range
  else if v.height ≤ row then s.refusing .range
  else
    s.takeFlight x (v.width ≤ col || v.width < col + codes.length)
      (placeSteps v row col attr codes)

/-- SWEEP (R97, R98). -/
def beginSweep (x : Port) (p : PaneId) (row col w h : Nat) (code : Code) (attr : Attr)
    (override : Bool) (s : State) : State :=
  let v := (s.pane p).view
  if !s.owns x p then s.refusing .owner
  else if !(s.pane p).defined then s.refusing .range
  else
    s.takeFlight x (v.cuts col row w h)
      (if w = 0 ∨ h = 0 then [] else sweepSteps v row col w h ⟨code, attr⟩ override)

/-- SHIFT (R99-R101). -/
def beginShift (x : Port) (p : PaneId) (srow scol drow dcol w h : Nat) (s : State) : State :=
  let v := (s.pane p).view
  if !s.owns x p then s.refusing .owner
  else if !(s.pane p).defined then s.refusing .range
  else if v.height ≤ srow || v.height ≤ drow || v.width ≤ scol || v.width ≤ dcol then
    s.refusing .range
  else
    s.takeFlight x
      (shiftWidth v scol dcol w < w || shiftHeight v srow drow h < h)
      (shiftSteps v srow scol drow dcol w h)

/-- TINT (R102). -/
def beginTint (x : Port) (p : PaneId) (row col w h : Nat) (attr : Attr) (mask : AttrMask)
    (s : State) : State :=
  let v := (s.pane p).view
  if !s.owns x p then s.refusing .owner
  else if !(s.pane p).defined then s.refusing .range
  else
    s.takeFlight x (v.cuts col row w h)
      (if w = 0 ∨ h = 0 then [] else tintSteps v row col w h attr mask)

/-- Some cell of a field of `n` cells at (col, row) has guard on (R59). -/
def State.fieldGuarded (s : State) (v : PaneView) (row col n : Nat) : Bool :=
  (List.range n).any fun i => (s.cell (v.cellAddr (col + i) row)).attr.guarded

/-- TICK's checks, in the order of R59; none when it passes them. -/
def tickRefusal (x : Port) (p : PaneId) (row col n : Nat) (s : State) : Option RefusalCode :=
  let v := (s.pane p).view
  if !s.owns x p then some .owner
  else if !(s.pane p).defined then some .range
  else if v.height ≤ row then some .range
  else if v.width < col + n then some .range
  else if s.fieldGuarded v row col n then some .guarded
  else none

/-- TICK (R58-R60). -/
def beginTick (x : Port) (p : PaneId) (row col : Nat) (codes : List Code) (digit arrow : Bool)
    (s : State) : State :=
  match tickRefusal x p row col codes.length s with
  | some code => s.refusing code
  | none => s.takeFlight x false (tickSteps row col codes digit arrow)

/-- READ_CELLS (R103, R104). -/
def beginReadCells (x : Port) (p : PaneId) (row col n : Nat) (s : State) : State :=
  let v := (s.pane p).view
  if !(s.pane p).defined || v.height ≤ row || n = 0 || 32 < n then s.refusing .range
  else
    s.takeFlight x (v.width ≤ col || v.width < col + n) (readSteps v row col n)

/-- WAIT (R105). -/
def engineWait (x : Port) (s : State) : State := s.updPort x fun p => { p with waiting := true }

/-- The first event of a granted command: its checks, then its effect when it has one event, or the steps
it has still to do (R87, R92). -/
def startCommand (x : Port) (c : Command) (s : State) : State :=
  match c with
  | .define p g => engineDefine x p g s
  | .showPane p => engineShow x p s
  | .hidePane p => engineHide x p s
  | .dropPane p => engineDrop x p s
  | .claim p => engineClaim x p s
  | .release p => engineRelease x p s
  | .raise p => engineRaise x p s
  | .lower p => engineLower x p s
  | .behind p q => engineBehind x p q s
  | .setTop p top fine => engineSetTop x p top fine s
  | .roll p k clear => beginRoll x p k clear s
  | .log p attr codes => beginLog x p attr codes s
  | .place p row col attr codes => beginPlace x p row col attr codes s
  | .sweep p row col w h code attr override =>
    beginSweep x p row col w h code attr override s
  | .shift p srow scol drow dcol w h => beginShift x p srow scol drow dcol w h s
  | .tint p row col w h attr mask => beginTint x p row col w h attr mask s
  | .tick p row col codes digit arrow => beginTick x p row col codes digit arrow s
  | .readCells p row col n => beginReadCells x p row col n s
  | .wait => engineWait x s
  | .glyph code rows => engineGlyph code rows s
  | .patch slot code rows => enginePatch slot code rows s
  | .patchRows slot rows => enginePatchRows slot rows s
  | .patchCode slot code => enginePatchCode slot code s
  | .unpatch slot => engineUnpatch slot s
  | .readGlyph slotOption slot code => engineReadGlyph slotOption slot code s
  | .palette i r g b => enginePalette i r g b s
  | .ramp dir stage fg bg duration count => engineRamp dir stage fg bg duration count s
  | .staleColour i => engineStaleColour i s
  | .blink period => engineBlink period s
  | .cursor p row col startScan endScan mode => engineCursor x p row col startScan endScan mode s
  | .timing preset height => engineTiming preset height s
  | .lock => engineLock s

/-- The execution of a granted command begins in the event of the grant. A command that changes a record
has its effect there and completes, as R87 says. The model's choice is which other commands have an event
of their own still to come: a refused command has its checks made here and its refusal recorded by a
later step, so that a MODE, a CLEAR, a LINK fault or a port reset may fall between (R108, R110, R113;
log 29), and READ_GLYPH reads its bitmap in a later step (R127, R128; log 30). -/
def beginCommand (x : Port) (c : Command) (s : State) : State :=
  (startCommand x c s).completeIfDone x

/-! ### One step of the command in flight (R94) -/

/-- The cell address a step forms, from the working record as it stands when the step is reached; none
for a step that accesses no cell (R3, R41, R94). -/
def Micro.address (v : PaneView) : Micro → Option Nat
  | .put col row _ _ => some (v.cellAddr col row)
  | .load col row => some (v.cellAddr col row)
  | .store col row => some (v.cellAddr col row)
  | .tint col row _ _ => some (v.cellAddr col row)
  | .read col row => some (v.cellAddr col row)
  | .clearCell line col => some (v.lineAddr line col)
  | .text line col _ => some (v.lineAddr line col)
  | .readOld col row => some (v.cellAddr col row)
  | .putCode col row _ => some (v.cellAddr col row)
  | .markEvent _ _ _ _ => none
  | .arrow col row _ => some (v.cellAddr col row)
  | .advance _ => none
  | .discard => none
  | .readBitmap _ _ _ => none
  | .refuse _ => none

/-- What a step does to the part. -/
def Micro.effect (f : Flight) (m : Micro) (s : State) : State :=
  let v := (s.pane f.pane).view
  match m with
  | .put col row cell override =>
    let a := v.cellAddr col row
    if (s.cell a).attr.guarded && !override then s else s.writeCell a cell
  | .load _ _ => s
  | .store col row =>
    match f.held with
    | some cell => s.writeCell (v.cellAddr col row) cell
    | none => s
  | .tint col row attr mask =>
    let a := v.cellAddr col row
    s.writeAttr a (Attr.masked (s.cell a).attr attr mask)
  | .read col row =>
    s.updPort f.port fun p => p.appendReply (cellWords (s.cell (v.cellAddr col row)))
  | .clearCell line col => s.writeCell (v.lineAddr line col) (s.pane f.pane).fill
  | .text line col cell => s.writeCell (v.lineAddr line col) cell
  | .readOld _ _ => s
  | .putCode col row code => s.writeFieldCode (v.cellAddr col row) code
  | .markEvent col row new digit =>
    match judge f.old new with
    | none => s
    | some dir =>
      let a := v.cellAddr col row
      { s with
        marks := recordMark s.marks a new.length (newMark s.shownRamp a f.old new dir digit) }
  | .arrow col row new =>
    let a := v.cellAddr col row
    if (s.cell a).attr.guarded then s
    else s.writeCell a { s.cell a with code := arrowCode (judge f.old new) }
  | .advance c => s.setView f.pane (v.advanced c)
  | .discard => s.setClip f.port true
  | .readBitmap slotOption slot code =>
    s.updPort f.port fun p => p.appendReply (readBackWords (s.chosenRow slotOption slot code))
  | .refuse code => s.refuse f.port code

/-- What a step's read leaves in the command in flight: the source cell of a SHIFT, the next old code of
a TICK. -/
def Micro.progress (f : Flight) (m : Micro) (s : State) : Flight :=
  let v := (s.pane f.pane).view
  match m with
  | .load col row => { f with held := some (s.cell (v.cellAddr col row)) }
  | .store _ _ => { f with held := none }
  | .readOld col row => { f with old := f.old ++ [(s.cell (v.cellAddr col row)).code] }
  | .put _ _ _ _ | .tint _ _ _ _ | .read _ _ | .clearCell _ _ | .text _ _ _ | .putCode _ _ _
  | .markEvent _ _ _ _ | .arrow _ _ _ | .advance _ | .discard | .readBitmap _ _ _ | .refuse _ => f

/-- A step done: the command goes on with the rest, or completes in the same event when that was its
last (R87). -/
def State.stepDone (s : State) (f : Flight) (m : Micro) (rest : List Micro) : State :=
  let f' := m.progress f s
  let todo := dropIdleMark f'.old rest
  if todo.isEmpty then (m.effect f s).complete f.port
  else { m.effect f s with flight := some { f' with todo := todo } }

/-- The engine does the next step of the command in flight; with none in flight it does nothing. -/
def engineStep (s : State) : Host.Outcome State Fault Refusal :=
  match s.flight with
  | none => .next s
  | some f =>
    match f.todo with
    | [] => .next (s.complete f.port)
    | m :: rest =>
      match m.address (s.pane f.pane).view with
      | some a =>
        if a < Config.planeSize then .next (s.stepDone f m rest) else .fault (.noSuchCell a)
      | none => .next (s.stepDone f m rest)

/-- At most `n` steps of the engine, one after another. -/
def engineSteps : Nat → State → Host.Outcome State Fault Refusal
  | 0, s => .next s
  | n + 1, s =>
    match engineStep s with
    | .next t => engineSteps n t
    | .fault r => .fault r
    | .refused r => .refused r

/-- The steps the command in flight has left. -/
def State.stepsLeft (s : State) : Nat :=
  match s.flight with
  | none => 0
  | some f => f.todo.length

/-- The next step of the command in flight is its last: the command completes with it (R87). -/
def State.atLastStep (s : State) : Bool :=
  match s.flight with
  | none => true
  | some f =>
    match f.todo with
    | [] => true
    | m :: rest => (dropIdleMark (m.progress f s).old rest).isEmpty

/-- The command in flight carried out to its end, its last step included. -/
def finishFlight (s : State) : Host.Outcome State Fault Refusal := engineSteps s.stepsLeft s

/-! ### The arbiter (R88-R91) -/

/-- The reply words a command needs room for: 2n for READ_CELLS of 1 to 32 cells, 8 for READ_GLYPH
(R88, R89). -/
def replyNeed : Option Command → Nat
  | some (.readCells _ _ _ n) => if 1 ≤ n ∧ n ≤ 32 then 2 * n else 0
  | some (.readGlyph _ _ _) => 8
  | _ => 0

/-- The port is eligible (R88). Nothing is granted before the power-on clear completes (R112). -/
def State.eligible (s : State) (x : Port) : Bool :=
  match (s.port x).queue with
  | [] => false
  | t :: _ =>
    s.phase = .running && (s.port x).faults.condition = .running && !(s.port x).waiting &&
      replyNeed (decodeCommand t) ≤ (s.port x).room

/-- The port the arbiter grants: with the command in flight empty, the first eligible port in the
rotation after the one the pointer names (R90). -/
def State.arbiterPick (s : State) : Option Port :=
  if s.flight.isSome then none
  else
    let y := Port.after s.grantPtr
    let z := Port.after y
    [y, z, s.grantPtr].find? fun x => s.eligible x

/-- The pane a command names; 0 for a command that names none. -/
def Command.named : Command → PaneId
  | .define p _ | .showPane p | .hidePane p | .dropPane p | .claim p | .release p | .raise p | .lower p
  | .behind p _ | .setTop p _ _ | .roll p _ _ | .log p _ _ | .place p _ _ _ _
  | .sweep p _ _ _ _ _ _ _ | .shift p _ _ _ _ _ _ | .tint p _ _ _ _ _ _ | .tick p _ _ _ _ _
  | .readCells p _ _ _ | .cursor p _ _ _ _ _ => p
  | .wait | .glyph _ _ | .patch _ _ _ | .patchRows _ _ | .patchCode _ _ | .unpatch _
  | .readGlyph _ _ _ | .palette _ _ _ _ | .ramp _ _ _ _ _ _ | .staleColour _ | .blink _ | .timing _ _
  | .lock => 0

/-- The grant of port `x`: its head transfer, which carries command `c`, leaves its queue and becomes the
command in flight, room for its reply is reserved and the pointer names the port (R89, R90). -/
def State.granted (s : State) (x : Port) (transfer : List Word) (rest : List (List Word))
    (c : Command) : State :=
  { s with grantPtr := x, flight := some ⟨x, transfer, Command.named c, [], none, []⟩ }.updPort x fun p =>
    { p with queue := rest, reserved := p.reserved + replyNeed (some c) }

/-- The grant of port `x` and, in the same event, the beginning of the command's execution (R87). A
transfer that carries no engine command, which no port lets become complete, is dropped (log 21). -/
def grantTo (x : Port) (s : State) : State :=
  match (s.port x).queue with
  | [] => s
  | t :: rest =>
    match decodeCommand t with
    | none => { s with grantPtr := x }.updPort x fun p => { p with queue := rest }
    | some c => beginCommand x c (s.granted x t rest c)

/-- The complete transfers that wait in the three queues. -/
def State.queuedTransfers (s : State) : Nat :=
  s.ports.a.queue.length + s.ports.b.queue.length + s.ports.c.queue.length

/-- At most `n` searches of the arbiter, each with the grant it makes. -/
def arbitrateFor : Nat → State → State
  | 0, s => s
  | n + 1, s =>
    match s.arbiterPick with
    | none => s
    | some x => arbitrateFor n (grantTo x s)

/-- The arbiter's searches at one moment: while the command in flight is empty and a port is eligible, a
port is granted at once; a granted command that completes in its grant lets the next search be made
(R87, R90, R91). Each grant takes a transfer from a queue, so the searches end. -/
def State.arbitrate (s : State) : State := arbitrateFor s.queuedTransfers s

/-- An event with the searches of the arbiter that it gives rise to (R91). -/
def thenArbitrate (o : Host.Outcome State Fault Refusal) : Host.Outcome State Fault Refusal :=
  match o with
  | .next s => .next s.arbitrate
  | .fault r => .fault r
  | .refused r => .refused r

end Sys2Proof.Machine
end

