-- ==== Sys2Proof/Machine/Serial.lean ====
section
/-! DEFINITION. The serial side of a port (spec 09): transfers, admission of words to the command queue, the
judgment at the rising edge of the select line, service transfers, and the words shifted out. -/

namespace Sys2Proof.Machine

/-! ### The falling edge (R174) -/

/-- The open-transfer record a falling edge makes: its snapshot's word A is the first out word. -/
def OpenTransfer.begun (statusA statusB : Word) : OpenTransfer where
  header := none
  destination := none
  words := 0
  partialBits := 0
  paritySeen := false
  overrun := false
  heldWords := []
  queued := []
  statusB := statusB
  outWord := statusA
  outReply := false

/-- TRANSFER_START: a falling edge of SEL_x. A port that is not ready makes no open transfer (R189); a
line that is low already has no falling edge (log 4). -/
def onTransferStart (x : Port) (s : State) : State :=
  let p := s.port x
  if p.selLow then s
  else if s.ready x then
    s.setPort x
      { p with
        selLow := true
        sent := []
        sentBits := []
        openT := some (OpenTransfer.begun (s.statusA x) (s.statusB x)) }
  else s.setPort x { p with selLow := true }

/-! ### A word (R173, R175, R176, R183) -/

/-- The transfer is a FETCH that shifts reply words: its header has the FETCH code and good parity
(R183). -/
def OpenTransfer.fetches (o : OpenTransfer) : Bool :=
  match o.header with
  | some h => headerCode h = 1 && parityGood h
  | none => false

/-- The out word whose 16th bit is shifted now is complete; a reply word leaves the buffer with it
(R183). -/
def PortState.shiftOut (o : OpenTransfer) (p : PortState) : PortState :=
  { p with
    sent := p.sent ++ [o.outWord]
    reply := if o.outReply then p.reply.tail else p.reply }

/-- The out word that begins next, chosen as the one before it completes (R174, R183; log 14). -/
def PortState.chooseOut (p : PortState) : PortState :=
  match p.openT with
  | none => p
  | some o =>
    if p.sent.length = 1 then { p with openT := some { o with outWord := o.statusB, outReply := false } }
    else if o.fetches then
      match p.reply with
      | w :: _ => { p with openT := some { o with outWord := w, outReply := true } }
      | [] => { p with openT := some { o with outWord := emptyMarker, outReply := false } }
    else { p with openT := some { o with outWord := fillerWord, outReply := false } }

/-- What a word's place and bits decide: the header and its destination from word 0, bad parity from
every word but those of a FETCH after its header (R173, R175, R183). -/
def OpenTransfer.read (o : OpenTransfer) (w : Word) : OpenTransfer :=
  match o.header with
  | none =>
    { o with
      header := some w
      destination := some (if isService (headerCode w) then .assembler else .queue)
      paritySeen := !parityGood w }
  | some h => { o with paritySeen := o.paritySeen || (headerCode h ≠ 1 && !parityGood w) }

/-- An in word taken: into the queue, or counted in the assembler; one that finds the queue full makes
the transfer overrun, and from then the transfer's words are ignored (R175, R176). That the word that
overruns is not counted itself, while its parity and a header are still taken into the record, is the
model's choice (log 31). -/
def PortState.takeIn (o : OpenTransfer) (w : Word) (p : PortState) : PortState :=
  if o.overrun then p
  else
    let o' := o.read w
    match o'.destination with
    | some .queue =>
      if Config.queueWords ≤ p.wordsHeld then
        ({ p with openT := some { o' with overrun := true, queued := [] } }).linkFault [.overrun]
      else
        { p with openT := some { o' with words := o'.words + 1, queued := o'.queued ++ [w] } }
    | _ =>
      { p with
        openT := some
          { o' with
            words := o'.words + 1
            heldWords := if o'.heldWords.length < 2 then o'.heldWords ++ [w] else o'.heldWords } }

/-- WORD_SAMPLED: the 16th bit of an in word is sampled, and the out word beside it is complete. A port
without an open transfer, or not ready, takes no bit (R172, R189). -/
def onWordSampled (x : Port) (w : Word) (s : State) : State :=
  match (s.port x).openT with
  | none => s
  | some o =>
    if s.ready x then s.updPort x fun p => ((p.shiftOut o).takeIn o w).chooseOut else s

/-! ### The rising edge (R177, R178) -/

/-- The header has good parity, and its code is unknown or its word count is not allowed (R177). -/
def OpenTransfer.badFormat (o : OpenTransfer) : Bool :=
  match o.header with
  | some h => parityGood h && !countAllowed (headerCode h) o.words
  | none => false

/-- The LINK fault flags the judgment records (R177). -/
def OpenTransfer.linkFlags (o : OpenTransfer) : List Flag :=
  (if o.partialBits ≠ 0 then [.framing] else []) ++ (if o.paritySeen then [.parity] else []) ++
    if o.badFormat then [.format] else []

/-- Service words appended when the buffer has room for them, else the transfer is dropped with OVERRUN
(R182). -/
def PortState.appendService (p : PortState) (ws : List Word) : PortState :=
  if ws.length ≤ p.room then { p with reply := p.reply ++ ws } else p.linkFault [.overrun]

/-- MODE: the mode of the class set; a class or mode the word does not name leaves the record (R200). -/
def PortState.setMode (p : PortState) (cls newMode : Nat) : PortState :=
  match modeOfNumber newMode with
  | none => p
  | some m =>
    if cls = 0 then { p with faults := { p.faults with linkMode := m } }
    else if cls = 1 then { p with faults := { p.faults with refuseMode := m } }
    else p

/-- A good service transfer taken, given its command code and held words (R182-R186). -/
def PortState.takeService (p : PortState) (locked : Bool) (code : Nat) (held : List Word) :
    PortState :=
  match code with
  | 2 => p.appendService p.faults.words
  | 3 => p.clearFaults locked
  | 4 =>
    match held with
    | _ :: arg :: _ => p.setMode (field arg 4 2) (field arg 0 3)
    | _ => p
  | 5 => p.appendService identWords
  | _ => p

/-- The transfer ends: judged, then queued, taken or discarded (R177, R178). -/
def PortState.endTransfer (p : PortState) (locked : Bool) (o : OpenTransfer) : PortState :=
  let q := p.discardOpen
  if o.overrun then q
  else if !o.linkFlags.isEmpty then q.linkFault o.linkFlags
  else
    match o.header with
    | none => q
    | some h =>
      if o.destination = some .queue then
        if q.faults.condition = .halted then q else { q with queue := q.queue ++ [o.queued] }
      else q.takeService locked (headerCode h) o.heldWords

/-- The first `n` bits of a word, most significant first, as they cross SDO_x (R173). -/
def firstBits (w : Word) (n : Nat) : List Bool := (List.range n).map w.getMsbD

/-- TRANSFER_END: a rising edge of SEL_x, `partialBits` bits past the last complete word; as many bits of
the out word have been shifted (R172). A line that is high already has no rising edge (log 4). -/
def onTransferEnd (x : Port) (partialBits : Fin 16) (s : State) : State :=
  if !(s.port x).selLow then s
  else
    s.updPort x fun p =>
      match p.openT with
      | none => { p with selLow := false }
      | some o =>
        PortState.endTransfer
          { p with selLow := false, sentBits := firstBits o.outWord partialBits.val }
          (decide (s.clock = .locked)) { o with partialBits := partialBits.val }

/-! ### SDO_x (R172, R189) -/

/-- The level of SDO_x while bit `k` of the current out word is presented, `k` bits of it having been
sampled; none while the line is high-impedance. It is driven from the falling edge of SEL_x that opens a
transfer; a port that becomes ready while SEL_x is low has no transfer and drives nothing (R172, R189;
log 17). -/
def State.sdo (s : State) (x : Port) (k : Fin 16) : Option Bool :=
  if (s.port x).selLow && s.ready x then (s.port x).openT.map fun o => o.outWord.getMsbD k.val
  else none

end Sys2Proof.Machine
end

