-- ==== Sys2Proof/Machine/Lines.lean ====
section
/-! DEFINITION. The lines that reach the whole part or a whole port: RESET (spec 01 R14, 05 R112), PRST_x
(09 R191, R192), WAKE (10 R202-R204), and the retry timer (10 R197). -/

namespace Sys2Proof.Machine

/-! ### RESET -/

/-- A port at power-on reset: every item at its reset value; the levels of its lines are inputs and stay
(log 11). -/
def PortState.powerOn (p : PortState) : PortState :=
  { PortState.atReset with held := p.held, selLow := p.selLow }

/-- RESET_ASSERTION: RESET goes low and ends the command in flight, standby and everything else; every
queue and reply buffer is emptied and the part is blank (R112; log 9, log 26). -/
def onResetAssertion (s : State) : State :=
  { s with
    phase := .inReset
    standby := false
    clock := .stopped
    flight := none
    grantPtr := .c
    ports := s.ports.map fun p => { p with openT := none, queue := [], reply := [], reserved := 0 } }

/-- POWER_ON_RESET: RESET is released; every block takes its reset values, OSEL gives the owners and TSEL
the preset, and the clear of the plane begins (R14, R16, R31, R147, R149; log 8). -/
def onPowerOnReset (osel tsel : Fin 4) (s : State) : State :=
  { State.reset with
    panes := Vector.ofFn fun p : Fin 16 => Pane.atReset (ownerFor osel p.val)
    timing := ⟨tsel, 16⟩
    shownTiming := ⟨tsel, 16⟩
    ports := s.ports.map PortState.powerOn
    frameCount := s.frameCount
    pending := s.pending }

/-- PLANE_CLEAR_COMPLETE: every cell holds the reset cell, and the first frame start comes if the clock
is LOCKED already (R14, R151). -/
def onClearComplete (order : LatchOrder) (s : State) : State :=
  if s.phase = .clearing then onFrameStart order { s with phase := .running, plane := [] } else s

/-! ### PRST_x -/

/-- The command of port `x` in flight is stopped; a SHIFT that has read a source cell completes the
write of it (R108). -/
def State.abortFlight (s : State) (x : Port) : State :=
  match s.flight with
  | none => s
  | some f =>
    if f.port ≠ x then s
    else
      match f.todo with
      | .store col row :: _ =>
        if (s.pane f.pane).view.cellAddr col row < Config.planeSize then
          { (Micro.store col row).effect f s with flight := none }
        else { s with flight := none }
      | _ => { s with flight := none }

/-- The cursor turned off when port `x` holds it, or when it stands in a pane of `x` with its mode not
OFF (R30, R145). -/
def State.dropCursor (s : State) (x : Port) : State :=
  if s.holder = some x || (s.cursor.mode ≠ .off && s.owns x s.cursor.pane) then s.cursorOff else s

/-- The reset of the port's own state; it is held from then on (R191, R192). -/
def PortState.lineReset (p : PortState) : PortState :=
  { PortState.atReset with
    held := true, selLow := p.selLow, sent := p.sent, sentBits := p.sentBits }

/-- PORT_RESET: a low on PRST_x reaches 10 µs (R192). The line of a held port is low already, so no new
low can qualify there (R191; log 4). -/
def onPortReset (x : Port) (s : State) : State :=
  if (s.port x).held then s
  else (((s.abortFlight x).dropCursor x).releaseAll x).updPort x PortState.lineReset

/-- PORT_RESET_RELEASE: PRST_x rises; the port is no longer held, and nothing else changes (R191). -/
def onPortResetRelease (x : Port) (s : State) : State :=
  s.updPort x fun p => { p with held := false }

/-! ### WAKE: not timed before the power-on clear completes (R202) -/

/-- WAKE_CLEAR_PULSE: a low of 10 µs up to below 1 ms rises: a CLEAR on every record (R202). -/
def onWakePulse (s : State) : State :=
  if s.phase = .running && !s.standby then
    { s with ports := s.ports.map (PortState.clearFaults (decide (s.clock = .locked))) }
  else s

/-- STANDBY_ENTRY: a low reaches 1 ms: the clock stops and every open transfer is discarded (R203). -/
def onStandbyEntry (s : State) : State :=
  if s.phase = .running && !s.standby then
    { s with standby := true, clock := .stopped, ports := s.ports.map PortState.discardOpen }
  else s

/-- STANDBY_EXIT: WAKE rises after standby: the clock goes to LOCKING (R204). -/
def onStandbyExit (s : State) : State :=
  if s.standby then { s with standby := false, clock := .locking } else s

/-! ### The retry timer -/

/-- RETRY_EXPIRY: the timer of a PAUSED port runs out (R197). -/
def onRetryExpiry (x : Port) (s : State) : State :=
  s.updPort x fun p =>
    if p.faults.condition = .paused && p.faults.retry.isSome then
      { p with faults := { p.faults with condition := .running, retry := none } }
    else p

end Sys2Proof.Machine
end

