-- ==== Sys2Proof/Machine/Commands.lean ====
section
/-! DEFINITION. The rows that are whole transfers: one definition per row. A service transfer is clocked in
and taken at its end (R178, R182-R186). An engine transfer is clocked in and queued, and when the engine
is empty and nothing of its port is queued ahead of it, so that the arbiter grants it at its end (R91),
it is carried out to its end in the same step (R87, R90; log 1, log 2). -/

namespace Sys2Proof.Machine

/-! ### A whole transfer -/

/-- The words of a transfer clocked in between a falling and a rising edge of SEL_x, with the searches of
the arbiter its events give rise to (R91); no transfer begins on a line that is low already (log 1). -/
def sendWords (x : Port) (ws : List Word) (s : State) : State :=
  if (s.port x).selLow then s
  else
    (onTransferEnd x 0
      (ws.foldl (fun t w => (onWordSampled x w t).arbitrate) (onTransferStart x s))).arbitrate

/-- An engine transfer sent on a port, and carried out when it is in flight at the transfer's end: the
engine and the port's queue were empty before it, so the command in flight is the one it carries. -/
def sendCommand (x : Port) (c : Command) (s : State) : Host.Outcome State Fault Refusal :=
  let t := sendWords x (encodeCommand c) s
  if s.flight.isNone && (s.port x).queue.isEmpty && t.flight.map Flight.port = some x then
    thenArbitrate (finishFlight t)
  else .next t

/-! ### Service transfers -/

/-- FETCH of `words` words (R183, R184). -/
def execFetch (x : Port) (words : Nat) (s : State) : Host.Outcome State Fault Refusal :=
  .next (sendWords x (fetchWords words) s)

/-- FAULTS (R182, R198). -/
def execFaults (x : Port) (s : State) : Host.Outcome State Fault Refusal :=
  .next (sendWords x [mkWord (header 2 0 0)] s)

/-- CLEAR (R199). -/
def execClear (x : Port) (s : State) : Host.Outcome State Fault Refusal :=
  .next (sendWords x [mkWord (header 3 0 0)] s)

/-- MODE (R200). -/
def execMode (x : Port) (cls : Fin 4) (newMode : Fin 8) (s : State) :
    Host.Outcome State Fault Refusal :=
  .next (sendWords x (modeWords cls newMode) s)

/-- IDENT (R185). -/
def execIdent (x : Port) (s : State) : Host.Outcome State Fault Refusal :=
  .next (sendWords x [mkWord (header 5 0 0)] s)

/-! ### Pane commands (spec 02) -/

/-- DEFINE (R18-R22, R36). -/
def execDefine (x : Port) (p : PaneId) (g : Geometry) (s : State) :
    Host.Outcome State Fault Refusal :=
  sendCommand x (.define p g) s

/-- SHOW (R23). -/
def execShow (x : Port) (p : PaneId) (s : State) : Host.Outcome State Fault Refusal :=
  sendCommand x (.showPane p) s

/-- HIDE (R24). -/
def execHide (x : Port) (p : PaneId) (s : State) : Host.Outcome State Fault Refusal :=
  sendCommand x (.hidePane p) s

/-- DROP (R25). -/
def execDrop (x : Port) (p : PaneId) (s : State) : Host.Outcome State Fault Refusal :=
  sendCommand x (.dropPane p) s

/-- CLAIM (R26). -/
def execClaim (x : Port) (p : PaneId) (s : State) : Host.Outcome State Fault Refusal :=
  sendCommand x (.claim p) s

/-- RELEASE (R27). -/
def execRelease (x : Port) (p : PaneId) (s : State) : Host.Outcome State Fault Refusal :=
  sendCommand x (.release p) s

/-- RAISE (R34). -/
def execRaise (x : Port) (p : PaneId) (s : State) : Host.Outcome State Fault Refusal :=
  sendCommand x (.raise p) s

/-- LOWER (R35). -/
def execLower (x : Port) (p : PaneId) (s : State) : Host.Outcome State Fault Refusal :=
  sendCommand x (.lower p) s

/-- BEHIND (R36). -/
def execBehind (x : Port) (p q : PaneId) (s : State) : Host.Outcome State Fault Refusal :=
  sendCommand x (.behind p q) s

/-! ### Scroll commands (spec 03) -/

/-- SET_TOP (R46). -/
def execSetTop (x : Port) (p : PaneId) (top fine : Nat) (s : State) :
    Host.Outcome State Fault Refusal :=
  sendCommand x (.setTop p top fine) s

/-- ROLL (R47-R49). -/
def execRoll (x : Port) (p : PaneId) (k : Int) (clear : Bool) (s : State) :
    Host.Outcome State Fault Refusal :=
  sendCommand x (.roll p k clear) s

/-- LOG (R50, R51). -/
def execLog (x : Port) (p : PaneId) (attr : Attr) (codes : List Code) (s : State) :
    Host.Outcome State Fault Refusal :=
  sendCommand x (.log p attr codes) s

/-! ### Cell commands (spec 05) and TICK (spec 04) -/

/-- PLACE (R95, R96). -/
def execPlace (x : Port) (p : PaneId) (row col : Nat) (attr : Attr) (codes : List Code)
    (s : State) : Host.Outcome State Fault Refusal :=
  sendCommand x (.place p row col attr codes) s

/-- SWEEP (R97, R98). -/
def execSweep (x : Port) (p : PaneId) (row col w h : Nat) (code : Code) (attr : Attr)
    (override : Bool) (s : State) : Host.Outcome State Fault Refusal :=
  sendCommand x (.sweep p row col w h code attr override) s

/-- SHIFT (R99-R101). -/
def execShift (x : Port) (p : PaneId) (srow scol drow dcol w h : Nat) (s : State) :
    Host.Outcome State Fault Refusal :=
  sendCommand x (.shift p srow scol drow dcol w h) s

/-- TINT (R102). -/
def execTint (x : Port) (p : PaneId) (row col w h : Nat) (attr : Attr) (mask : AttrMask)
    (s : State) : Host.Outcome State Fault Refusal :=
  sendCommand x (.tint p row col w h attr mask) s

/-- TICK (R58-R70, R73). -/
def execTick (x : Port) (p : PaneId) (row col : Nat) (codes : List Code) (digit arrow : Bool)
    (s : State) : Host.Outcome State Fault Refusal :=
  sendCommand x (.tick p row col codes digit arrow) s

/-- READ_CELLS (R103, R104). -/
def execReadCells (x : Port) (p : PaneId) (row col n : Nat) (s : State) :
    Host.Outcome State Fault Refusal :=
  sendCommand x (.readCells p row col n) s

/-- WAIT (R105). -/
def execWait (x : Port) (s : State) : Host.Outcome State Fault Refusal :=
  sendCommand x .wait s

/-! ### Glyph commands (spec 06) -/

/-- GLYPH (R119). -/
def execGlyph (x : Port) (code : Code) (rows : RowPairs) (s : State) :
    Host.Outcome State Fault Refusal :=
  sendCommand x (.glyph code rows) s

/-- PATCH (R120). -/
def execPatch (x : Port) (slot : Fin 16) (code : Code) (rows : RowPairs) (s : State) :
    Host.Outcome State Fault Refusal :=
  sendCommand x (.patch slot code rows) s

/-- PATCH_ROWS (R121). -/
def execPatchRows (x : Port) (slot : Fin 16) (rows : RowPairs) (s : State) :
    Host.Outcome State Fault Refusal :=
  sendCommand x (.patchRows slot rows) s

/-- PATCH_CODE (R122). -/
def execPatchCode (x : Port) (slot : Fin 16) (code : Code) (s : State) :
    Host.Outcome State Fault Refusal :=
  sendCommand x (.patchCode slot code) s

/-- UNPATCH (R123). -/
def execUnpatch (x : Port) (slot : Fin 16) (s : State) : Host.Outcome State Fault Refusal :=
  sendCommand x (.unpatch slot) s

/-- READ_GLYPH (R126, R127). -/
def execReadGlyph (x : Port) (slotOption : Bool) (slot : Fin 16) (code : Code) (s : State) :
    Host.Outcome State Fault Refusal :=
  sendCommand x (.readGlyph slotOption slot code) s

/-! ### Colour commands (spec 07) and timing (spec 08) -/

/-- PALETTE (R130). -/
def execPalette (x : Port) (i : Index) (r g b : Nat) (s : State) :
    Host.Outcome State Fault Refusal :=
  sendCommand x (.palette i r g b) s

/-- RAMP (R133). -/
def execRamp (x : Port) (dir : Fin 4) (stage : Fin 16) (fg bg : StageColour) (duration count : Nat)
    (s : State) : Host.Outcome State Fault Refusal :=
  sendCommand x (.ramp dir stage fg bg duration count) s

/-- STALE_COLOUR (R135). -/
def execStaleColour (x : Port) (i : Index) (s : State) : Host.Outcome State Fault Refusal :=
  sendCommand x (.staleColour i) s

/-- BLINK (R138). -/
def execBlink (x : Port) (period : Nat) (s : State) : Host.Outcome State Fault Refusal :=
  sendCommand x (.blink period) s

/-- CURSOR (R141, R142). -/
def execCursor (x : Port) (p : PaneId) (row col startScan endScan : Nat) (mode : Fin 4)
    (s : State) : Host.Outcome State Fault Refusal :=
  sendCommand x (.cursor p row col startScan endScan mode) s

/-- TIMING (R154). -/
def execTiming (x : Port) (preset : Fin 4) (height : Nat) (s : State) :
    Host.Outcome State Fault Refusal :=
  sendCommand x (.timing preset height) s

/-- LOCK (R155). -/
def execLock (x : Port) (s : State) : Host.Outcome State Fault Refusal :=
  sendCommand x .lock s

end Sys2Proof.Machine
end

