-- ==== Sys2Proof/Machine/Events.lean ====
section
/-! DEFINITION. The rows that are events: power and video events, line events, serial events and the
engine's own. One definition per row; a row that can make a port eligible, or empties the engine, ends with
the arbiter's searches (R91). -/

namespace Sys2Proof.Machine

/-- POWER_ON_RESET (R14). -/
def execPowerOnReset (osel tsel : Fin 4) (s : State) : Host.Outcome State Fault Refusal :=
  .next (onPowerOnReset osel tsel s)

/-- RESET_ASSERTION (R112). -/
def execResetAssertion (s : State) : Host.Outcome State Fault Refusal :=
  .next (onResetAssertion s)

/-- PLANE_CLEAR_COMPLETE (R14, R151). -/
def execClearComplete (order : LatchOrder) (s : State) : Host.Outcome State Fault Refusal :=
  .next (onClearComplete order s).arbitrate

/-- CLOCK_LOCK_ACHIEVED (R149). -/
def execLockAchieved (order : LatchOrder) (s : State) : Host.Outcome State Fault Refusal :=
  .next (onLockAchieved order s).arbitrate

/-- LOSS_OF_LOCK (R150). -/
def execLossOfLock (s : State) : Host.Outcome State Fault Refusal :=
  .next (onLossOfLock s)

/-- FRAME_START (R152). -/
def execFrameStart (order : LatchOrder) (s : State) : Host.Outcome State Fault Refusal :=
  .next (onFrameStart order s).arbitrate

/-- MARK_STAGE_EXPIRY (R77): the frame start at which a record's frames left reach 0 (log 6). -/
def execStageExpiry (place : Nat) (s : State) : Host.Outcome State Fault Refusal :=
  .next (onStageExpiry place s).arbitrate

/-- BLINK_TOGGLE (R137): the frame start at which the blink counter reaches half the latch (log 6). -/
def execBlinkToggle (s : State) : Host.Outcome State Fault Refusal :=
  .next (onBlinkToggle s).arbitrate

/-- TRANSFER_START (R174). -/
def execTransferStart (x : Port) (s : State) : Host.Outcome State Fault Refusal :=
  .next (onTransferStart x s)

/-- WORD_SAMPLED (R176). -/
def execWordSampled (x : Port) (w : Word) (s : State) : Host.Outcome State Fault Refusal :=
  .next (onWordSampled x w s).arbitrate

/-- TRANSFER_END (R178). -/
def execTransferEnd (x : Port) (partialBits : Fin 16) (s : State) :
    Host.Outcome State Fault Refusal :=
  .next (onTransferEnd x partialBits s).arbitrate

/-- ARBITER_GRANT (R90): the next eligible port in rotation is granted, if there is one. Every event that
makes a port eligible or empties the engine makes this search itself (R91; log 2). -/
def execArbiterGrant (s : State) : Host.Outcome State Fault Refusal :=
  .next s.arbitrate

/-- CELL_ACCESS (R94): the next access or step of the command in flight; its last one completes it
(R87). -/
def execCellAccess (s : State) : Host.Outcome State Fault Refusal :=
  thenArbitrate (engineStep s)

/-- COMMAND_COMPLETION (R87): the last step of the command in flight; while more are left the command does
not complete (log 4). -/
def execCompletion (s : State) : Host.Outcome State Fault Refusal :=
  if s.atLastStep then thenArbitrate (engineStep s) else .next s

/-- RETRY_EXPIRY (R197). -/
def execRetryExpiry (x : Port) (s : State) : Host.Outcome State Fault Refusal :=
  .next (onRetryExpiry x s).arbitrate

/-- PORT_RESET (R192). -/
def execPortReset (x : Port) (s : State) : Host.Outcome State Fault Refusal :=
  .next (onPortReset x s).arbitrate

/-- PORT_RESET_RELEASE (R191). -/
def execPortResetRelease (x : Port) (s : State) : Host.Outcome State Fault Refusal :=
  .next (onPortResetRelease x s)

/-- WAKE_CLEAR_PULSE (R202). -/
def execWakePulse (s : State) : Host.Outcome State Fault Refusal :=
  .next (onWakePulse s).arbitrate

/-- STANDBY_ENTRY (R203). -/
def execStandbyEntry (s : State) : Host.Outcome State Fault Refusal :=
  .next (onStandbyEntry s)

/-- STANDBY_EXIT (R204). -/
def execStandbyExit (s : State) : Host.Outcome State Fault Refusal :=
  .next (onStandbyExit s)

end Sys2Proof.Machine
end

