-- ==== Sys2Proof/Machine/Dispatch.lean ====
section
/-! DEFINITION. One arm per row of spec/opcode_table.json. -/

namespace Sys2Proof.Machine

def exec (i : Instr) (s : State) : Host.Outcome State Fault Refusal :=
  match i with
  -- power and video events
  | .powerOnReset osel tsel => Sys2Proof.Machine.execPowerOnReset osel tsel s
  | .planeClearComplete order => Sys2Proof.Machine.execClearComplete order s
  | .clockLockAchieved order => Sys2Proof.Machine.execLockAchieved order s
  | .lossOfLock => Sys2Proof.Machine.execLossOfLock s
  | .frameStart order => Sys2Proof.Machine.execFrameStart order s
  | .markStageExpiry place => Sys2Proof.Machine.execStageExpiry place s
  | .blinkToggle => Sys2Proof.Machine.execBlinkToggle s
  -- serial events and service transfers
  | .transferStart x => Sys2Proof.Machine.execTransferStart x s
  | .transferEnd x partialBits => Sys2Proof.Machine.execTransferEnd x partialBits s
  | .fetch x words => Sys2Proof.Machine.execFetch x words s
  | .faults x => Sys2Proof.Machine.execFaults x s
  | .clear x => Sys2Proof.Machine.execClear x s
  | .mode x cls newMode => Sys2Proof.Machine.execMode x cls newMode s
  | .ident x => Sys2Proof.Machine.execIdent x s
  -- the engine's own events
  | .arbiterGrant => Sys2Proof.Machine.execArbiterGrant s
  | .commandCompletion => Sys2Proof.Machine.execCompletion s
  -- engine transfers
  | .define x p g => Sys2Proof.Machine.execDefine x p g s
  | .showPane x p => Sys2Proof.Machine.execShow x p s
  | .hidePane x p => Sys2Proof.Machine.execHide x p s
  | .dropPane x p => Sys2Proof.Machine.execDrop x p s
  | .claim x p => Sys2Proof.Machine.execClaim x p s
  | .release x p => Sys2Proof.Machine.execRelease x p s
  | .raise x p => Sys2Proof.Machine.execRaise x p s
  | .lower x p => Sys2Proof.Machine.execLower x p s
  | .behind x p q => Sys2Proof.Machine.execBehind x p q s
  | .setTop x p top fine => Sys2Proof.Machine.execSetTop x p top fine s
  | .roll x p k clear => Sys2Proof.Machine.execRoll x p k clear s
  | .log x p attr codes => Sys2Proof.Machine.execLog x p attr codes s
  | .place x p row col attr codes => Sys2Proof.Machine.execPlace x p row col attr codes s
  | .sweep x p row col w h code attr override => Sys2Proof.Machine.execSweep x p row col w h code attr override s
  | .shift x p srow scol drow dcol w h => Sys2Proof.Machine.execShift x p srow scol drow dcol w h s
  | .tint x p row col w h attr mask => Sys2Proof.Machine.execTint x p row col w h attr mask s
  | .tick x p row col codes digit arrow => Sys2Proof.Machine.execTick x p row col codes digit arrow s
  | .readCells x p row col n => Sys2Proof.Machine.execReadCells x p row col n s
  | .wait x => Sys2Proof.Machine.execWait x s
  | .glyph x code rows => Sys2Proof.Machine.execGlyph x code rows s
  | .patch x slot code rows => Sys2Proof.Machine.execPatch x slot code rows s
  | .patchRows x slot rows => Sys2Proof.Machine.execPatchRows x slot rows s
  | .patchCode x slot code => Sys2Proof.Machine.execPatchCode x slot code s
  | .unpatch x slot => Sys2Proof.Machine.execUnpatch x slot s
  | .readGlyph x slotOption slot code => Sys2Proof.Machine.execReadGlyph x slotOption slot code s
  | .palette x k r g b => Sys2Proof.Machine.execPalette x k r g b s
  | .ramp x dir stage fg bg duration count => Sys2Proof.Machine.execRamp x dir stage fg bg duration count s
  | .staleColour x k => Sys2Proof.Machine.execStaleColour x k s
  | .blink x period => Sys2Proof.Machine.execBlink x period s
  | .cursor x p row col startScan endScan mode => Sys2Proof.Machine.execCursor x p row col startScan endScan mode s
  | .timing x preset height => Sys2Proof.Machine.execTiming x preset height s
  | .lock x => Sys2Proof.Machine.execLock x s
  -- line events
  | .retryExpiry x => Sys2Proof.Machine.execRetryExpiry x s
  | .portReset x => Sys2Proof.Machine.execPortReset x s
  | .portResetRelease x => Sys2Proof.Machine.execPortResetRelease x s
  | .wakeClearPulse => Sys2Proof.Machine.execWakePulse s
  | .standbyEntry => Sys2Proof.Machine.execStandbyEntry s
  | .standbyExit => Sys2Proof.Machine.execStandbyExit s
  | .wordSampled x w => Sys2Proof.Machine.execWordSampled x w s
  | .cellAccess => Sys2Proof.Machine.execCellAccess s
  | .resetAssertion => Sys2Proof.Machine.execResetAssertion s

end Sys2Proof.Machine
end

