-- ==== Sys2Proof/Machine/Video.lean ====
section
/-! DEFINITION. Scan-out and composition (spec 08, 8.1 and 8.5-8.7; 02 R37, R38; 03 R43-R45; 07 R144): the
colour of every pixel, and the video lines, as functions of the state and of what scan-out fetched. The
beam's position in time is an argument (log 18). -/

namespace Sys2Proof.Machine

/-! ### The screen (R147, R148, R159) -/

/-- The active picture of a preset, width and height (R147). -/
def activePicture (preset : Fin 4) : Nat × Nat :=
  match preset with
  | 0 => (1920, 1080)
  | 1 => (1920, 1200)
  | 2 => (1280, 1024)
  | 3 => (2560, 1440)

/-- Columns of the screen (R148). -/
def Timing.columns (t : Timing) : Nat := (activePicture t.preset).1 / 8

/-- Rows of the screen (R148). -/
def Timing.rows (t : Timing) : Nat := (activePicture t.preset).2 / t.height

/-- A place of the active picture of the preset: pixel `x` of line `y` (R147, R159). -/
def Timing.inPicture (t : Timing) (x y : Nat) : Bool :=
  x < (activePicture t.preset).1 && y < (activePicture t.preset).2

/-- A position on the screen; the others are off it and are not shown (R38, R148). -/
def Timing.onScreen (t : Timing) (col row : Nat) : Bool := col < t.columns && row < t.rows

/-! ### Step 1: the pane (R37, R160) -/

/-- The displayed pane is SHOWN and its rectangle covers a screen position. -/
def PaneView.covers (v : PaneView) (col row : Nat) : Bool :=
  v.state = .shown && v.originCol ≤ col && col < v.originCol + v.width && v.originRow ≤ row &&
    row < v.originRow + v.height

/-- A pane's displayed record. -/
def State.shownPane (s : State) (p : PaneId) : PaneView := s.shownPanes[p]

/-- The frontmost SHOWN pane whose rectangle covers a position (R37). -/
def State.frontPane (s : State) (col row : Nat) : Option PaneId :=
  s.shownStack.find? fun p => (s.shownPane p).covers col row

/-- The pane a position shows: none off the screen, whatever rectangle reaches there (R37, R38, R148). -/
def State.paneAt (s : State) (col row : Nat) : Option PaneId :=
  if s.shownTiming.onScreen col row then s.frontPane col row else none

/-! ### Step 2: line, scan row and address (R43-R45, R161) -/

/-- What a pixel row of a pane reaches: the logical row, the line and the glyph scan row. -/
structure RowSpot where
  logical : Nat
  line : Nat
  scan : Nat
  deriving DecidableEq, Repr

/-- The logical row, line and glyph scan row at pane-relative row `pr` and screen scan row `scan`, with
cell height `height` (R161). -/
def PaneView.spot (v : PaneView) (height pr scan : Nat) : RowSpot :=
  if pr < v.frozen then ⟨pr, pr, scan⟩
  else
    let y := (pr - v.frozen) * height + scan + min v.fine (height - 1)
    ⟨v.frozen + y / height, v.ringLine (y / height), y % height⟩

/-! ### What scan-out fetches (R161, R162, R164, R169) -/

/-- What one fetch for a cell on a pixel row brings: the cell, the mark record over it, and the glyph row,
each as it stands at the fetch (R12, R80, R118, R169). -/
structure Fetched where
  cell : Cell
  mark : Option Mark
  glyph : Vector Bool 8
  deriving DecidableEq, Repr

/-- The record that covers a cell, if any (R80). -/
def State.markAt (s : State) (a : Nat) : Option Mark := s.marks.find? fun m => m.covers a

/-- A state in which scan-out could fetch a cell of the picture that this state puts out: frames ran in it,
since nothing is fetched while the output is blank, and it belongs to the same picture, since no frame
start came between (R169, R171; log 32). -/
def State.fetchedIn (s live : State) : Bool :=
  s.framesRun && live.framesRun && live.frameCount = s.frameCount

/-- The state whose cell, mark and glyph row a pixel of this state shows: `live` where scan-out could fetch
in it, ahead of the beam, and else the state of the output itself (R169; log 18). -/
def State.fetchState (s live : State) : State := if s.fetchedIn live then live else s

/-- The fetch for the cell at an address, glyph scan row `scan`, from the live state as it stands (R161,
R162, R164). -/
def State.fetch (s : State) (a scan : Nat) : Fetched where
  cell := s.cell a
  mark := s.markAt a
  glyph := s.glyphRow (s.cell a).code scan

/-! ### Steps 3 to 6: the colours (R162, R163) -/

/-- A stage colour over a cell's own: KEEP keeps it (R134). -/
def StageColour.over (c : StageColour) (own : Index) : Index :=
  match c with
  | .keep => own
  | .index i => i

/-- Foreground and background after the colours of the mark fetched (R80, R162). -/
def State.markColours (s : State) (mark : Option Mark) (own : Index × Index) : Index × Index :=
  match mark with
  | none => own
  | some m =>
    let d := s.shownRamp.dir m.dir
    if m.stage < d.count then
      (StageColour.over (d.stage m.stage).fg own.1, StageColour.over (d.stage m.stage).bg own.2)
    else own

/-- The working foreground and background of a fetched cell (R162, R163). -/
def State.cellColours (s : State) (v : PaneView) (f : Fetched) : Index × Index :=
  let marked := s.markColours f.mark (f.cell.attr.fg, f.cell.attr.bg)
  let staled := if v.stale then (s.shownStaleColour, marked.2) else marked
  if f.cell.attr.inverse then (staled.2, staled.1) else staled

/-! ### Steps 7 to 11: on or off (R164-R167) -/

/-- The cursor is drawn at a pixel of pane `p`, pane-relative column `pc`, with the logical row and scan
row of step 2 (R144). -/
def State.cursorDrawn (s : State) (p : PaneId) (pc : Nat) (spot : RowSpot) : Bool :=
  let k := s.shownCursor
  let v := s.shownPane p
  (k.mode = .steady || (k.mode = .blink && s.blink.phaseOn)) &&
    k.startScan ≤ k.endScan && k.startScan < s.shownTiming.height &&
    k.pane = p && k.row < v.height && k.col < v.width && k.col = pc && k.row = spot.logical &&
    k.startScan ≤ spot.scan && spot.scan ≤ min k.endScan (s.shownTiming.height - 1)

/-- Pixel `i` of a fetched cell is on, after steps 7 to 10; the blink phase is that of the moment the
pixel is composed (R164-R166). -/
def State.glyphOn (s : State) (v : PaneView) (f : Fetched) (scan i : Nat) : Bool :=
  let step7 := f.glyph[i]?.getD false
  let step8 := step7 || (f.cell.attr.underline && v.underlineRow = some scan)
  let step9 := step8 && !f.cell.attr.conceal
  step9 && !(f.cell.attr.blink && !s.blink.phaseOn)

/-! ### The pixel (R159, R168) -/

/-- A displayed palette entry. -/
def State.entry (s : State) (i : Index) : Colour := s.shownPalette[i]

/-- A pixel of pane `p` at a screen position: pixel `i` of the cell, screen scan row `scan`; the cell was
fetched from the state `live` (R160-R169). -/
def State.panePixel (s live : State) (p : PaneId) (col row scan i : Nat) : Colour :=
  let v := s.shownPane p
  let pc := col - v.originCol
  let spot := v.spot s.shownTiming.height (row - v.originRow) scan
  let fetched := live.fetch (v.lineAddr spot.line pc) spot.scan
  let colours := s.cellColours v fetched
  let lit := s.glyphOn v fetched spot.scan i != s.cursorDrawn p pc spot
  s.entry (if lit then colours.1 else colours.2)

/-- The colour composition gives pixel `x` of line `y` of the active picture, whose cell scan-out fetched
when the part stood in the state `live`, ahead of the output and in the same picture. Borders and leftover
lines show entry 0, and outside the picture there is none (R148, R159-R169; log 18). -/
def State.pixel (s live : State) (x y : Nat) : Colour :=
  let h := s.shownTiming.height
  if !s.shownTiming.inPicture x y then ⟨0, 0, 0⟩
  else
    match s.paneAt (x / 8) (y / h) with
    | none => s.entry 0
    | some p => s.panePixel (s.fetchState live) p (x / 8) (y / h) (y % h) (x % 8)

/-! ### The video lines (R158) -/

/-- Where the beam is: an active pixel, or a place of the blanking intervals that lies or not in the
horizontal and the vertical sync pulse (log 18). -/
inductive Beam where
  | active (x y : Nat)
  | blanking (hPulse vPulse : Bool)
  deriving DecidableEq, Repr

/-- The levels of the video lines; `clockRuns` is false while PCLK is held low. -/
structure VideoLines where
  colour : Colour
  hs : Bool
  vs : Bool
  de : Bool
  clockRuns : Bool
  deriving DecidableEq, Repr

/-- The video lines of the state, whose beam shows a cell fetched in the state `live`: blank while no
frames run, else the composed picture on the active pixels of the displayed preset, with DE high, and the
sync pulses in the blanking intervals, with RGB 0 (R158). A beam that is called active outside the preset's
picture is on no active pixel: DE is low and RGB 0 there. -/
def State.videoOut (s live : State) (beam : Beam) : VideoLines :=
  if s.framesRun then
    match beam with
    | .active x y => ⟨s.pixel live x y, false, false, s.shownTiming.inPicture x y, true⟩
    | .blanking h v => ⟨⟨0, 0, 0⟩, h, v, false, true⟩
  else ⟨⟨0, 0, 0⟩, false, false, false, false⟩

end Sys2Proof.Machine
end

