-- ==== Sys2Proof/Machine/Scan.lean ====
section
/-! DEFINITION. Runs of events, and a picture as scan-out draws it along a run (spec 08, R169, R171): every
pixel row of a cell has a fetch of its own, which comes after the output of the row above. -/

namespace Sys2Proof.Machine

/-- Events carried out one after another. -/
def runEvents : List Instr → State → Host.Outcome State Fault Refusal
  | [], s => .next s
  | i :: rest, s =>
    match exec i s with
    | .next t => runEvents rest t
    | .fault r => .fault r
    | .refused r => .refused r

/-- The events that come while one pixel row is drawn: those before the fetch, since the output of the row
above, and those between the fetch and the output (log 18). -/
structure RowEvents where
  beforeFetch : List Instr
  beforeOutput : List Instr
  deriving DecidableEq, Repr

/-- The video lines at pixel `x` of line `y` and of the lines below it, drawn along a run: the cell is
fetched anew for each line, once the pixel above has been put out, so a change taken between a fetch and
its output shows one pixel row later (R169). -/
def drawRows (x : Nat) : Nat → List RowEvents → State → List VideoLines
  | _, [], _ => []
  | y, r :: rest, s =>
    match runEvents r.beforeFetch s with
    | .fault _ => []
    | .refused _ => []
    | .next live =>
      match runEvents r.beforeOutput live with
      | .fault _ => []
      | .refused _ => []
      | .next out => out.videoOut live (.active x y) :: drawRows x (y + 1) rest out

end Sys2Proof.Machine
end

