-- ==== Sys2Proof/Safety.lean ====
section
/-! DEFINITION. What it means that the part is in good order: the laws the spec lays down for its records,
as predicates of the state, and the situation in which a port's command is carried out at once. -/

namespace Sys2Proof.Machine

/-! ### The cell plane (R2) -/

/-- The plane lists cells in canonical form, at addresses it has. -/
abbrev State.PlaneLaw (s : State) : Prop :=
  s.plane.wf = true ∧ ∀ e ∈ s.plane, e.1 < Config.planeSize

/-! ### Panes and the stack (R15, R19, R22, R32) -/

/-- The geometry of a defined pane (R15, R22). -/
abbrev PaneView.Legal (v : PaneView) : Prop :=
  1 ≤ v.width ∧ v.width ≤ 320 ∧ 1 ≤ v.height ∧ v.height ≤ 180 ∧ 1 ≤ v.pitch ∧ v.pitch ≤ 320 ∧
    v.originCol ≤ 319 ∧ v.originRow ≤ 179 ∧ v.fine ≤ 15 ∧ v.width ≤ v.pitch ∧
    v.height ≤ v.ringLines ∧ v.frozen ≤ v.height ∧
    v.base + v.pitch * v.ringLines ≤ Config.planeSize ∧
    (if v.ringLines = v.frozen then v.top = v.frozen
      else v.frozen ≤ v.top ∧ v.top ≤ v.ringLines - 1)

/-- Every defined pane, working or displayed, has a legal geometry (R22). -/
abbrev State.GeometryLaw (s : State) : Prop :=
  (∀ p : PaneId, (s.pane p).defined = true → (s.pane p).view.Legal) ∧
    ∀ p : PaneId, (s.shownPane p).state ≠ .undefined → (s.shownPane p).Legal

/-- No two defined panes owned by different ports have intersecting working regions (R19). -/
abbrev State.RegionLaw (s : State) : Prop :=
  ∀ p q : PaneId, (s.pane p).defined = true → (s.pane q).defined = true →
    (s.pane p).owner ≠ none → (s.pane q).owner ≠ none → (s.pane p).owner ≠ (s.pane q).owner →
      (s.pane p).view.meets (s.pane q).view = false

/-- Both stacks hold each pane once, and in the working one every pinned pane stands ahead of every
unpinned one (R32). -/
abbrev State.StackLaw (s : State) : Prop :=
  s.stack.Perm stackAtReset ∧ s.shownStack.Perm stackAtReset ∧
    s.stack.Pairwise fun a b => s.isPinned b = true → s.isPinned a = true

/-! ### Marks and ramp (R71, R72, R132) -/

/-- The counts and durations of a ramp (R132). -/
abbrev Ramp.Legal (r : Ramp) : Prop :=
  ∀ d ∈ [r.up, r.down, r.neutral], 1 ≤ d.count ∧ d.count ≤ 4 ∧
    ∀ st ∈ d.stages.toList, 1 ≤ st.duration ∧ st.duration ≤ 255

/-- The mark table holds at most 192 records, no cell is covered by two of them, each covers 1 to 16
cells of the plane, and each is in a stage 0-3 with 1-255 frames left (R71, R72). -/
def State.MarkLaw (s : State) : Prop :=
  s.marks.length ≤ Config.maxMarks ∧
    (s.marks.Pairwise fun m n => ∀ a, ¬(m.covers a = true ∧ n.covers a = true)) ∧
    (∀ m ∈ s.marks, (1 ≤ m.length ∧ m.length ≤ 16 ∧ m.start + m.length ≤ Config.planeSize) ∧
      m.stage ≤ 3 ∧ 1 ≤ m.left ∧ m.left ≤ 255) ∧
    s.ramp.Legal ∧ s.shownRamp.Legal

/-! ### Glyph store, colour unit, raster -/

/-- Slots name ROM codes, and no two enabled slots name the same one (R116, R120). -/
abbrev State.SlotLaw (s : State) : Prop :=
  (∀ i : Fin 8, s.slots[i].code.val < 384) ∧
    ∀ i j : Fin 8, i ≠ j → s.slots[i].enabled = true → s.slots[j].enabled = true →
      s.slots[i].code ≠ s.slots[j].code

/-- The cursor is OFF exactly when no port holds it, and its holder owns the pane it stands in
(R140-R145). -/
abbrev State.CursorLaw (s : State) : Prop :=
  (s.cursor.mode = .off ↔ s.holder = none) ∧
    ∀ x, s.holder = some x → (s.pane s.cursor.pane).owner = some x

/-- A blink period in force or pending (R136). -/
abbrev EvenPeriod (n : Nat) : Prop := 2 ≤ n ∧ n ≤ 254 ∧ n % 2 = 0

/-- The blink timer's ranges (R136, R137), and the heights of both timings (R147). -/
abbrev State.TimerLaw (s : State) : Prop :=
  EvenPeriod s.blink.latch ∧ (∀ n ∈ s.blink.pending, EvenPeriod n) ∧
    s.blink.counter < s.blink.latch / 2 ∧
    (8 ≤ s.timing.height ∧ s.timing.height ≤ 16) ∧
    (8 ≤ s.shownTiming.height ∧ s.shownTiming.height ≤ 16)

/-! ### Ports (R175, R180, R181, R189, R196) -/

/-- A fault record and its queue: the retry timer runs exactly while the port is PAUSED, a PAUSED or
HALTED port holds a sticky flag, and a HALTED port holds no complete transfer (R194, R196, R201). -/
abbrev PortState.RecordLegal (p : PortState) : Prop :=
  (p.faults.condition = .paused ↔ p.faults.retry.isSome = true) ∧
    (p.faults.condition ≠ .running → p.faults.sticky.any = true) ∧
    (p.faults.condition = .halted → p.queue = [])

/-- Every port's fault record is in order. -/
abbrev State.RecordLaw (s : State) : Prop := ∀ x : Port, (s.port x).RecordLegal

/-- Every port keeps the sizes of its queue and reply buffer (R180, R181). -/
abbrev State.BufferLaw (s : State) : Prop :=
  ∀ x : Port, (s.port x).wordsHeld ≤ Config.queueWords ∧
    (s.port x).reply.length + (s.port x).reserved ≤ Config.replyWords

/-- A port that is not ready has no open transfer, an open transfer stands only while SEL_x is low, the
clock is STOPPED exactly in standby and while RESET is low (log 9), and standby comes only once the
power-on clear is over (R149, R175, R189, R202, R203). -/
abbrev State.ReadyLaw (s : State) : Prop :=
  (∀ x : Port, s.ready x = false → (s.port x).openT = none) ∧
    (∀ x : Port, (s.port x).selLow = false → (s.port x).openT = none) ∧
    (s.clock = .stopped ↔ s.standby = true ∨ s.phase = .inReset) ∧
    (s.standby = true → s.phase = .running)

/-! ### The command in flight (R3, R89, R91) -/

/-- A column and logical row of a defined pane. -/
abbrev Pane.holds (r : Pane) (col row : Nat) : Prop :=
  r.defined = true ∧ col < r.view.width ∧ row < r.view.height

/-- A line and column of a defined pane's region. -/
abbrev Pane.holdsOnLine (r : Pane) (line col : Nat) : Prop :=
  r.defined = true ∧ line < r.view.ringLines ∧ col < r.view.pitch

/-- A step stays inside the pane it names: the pane is defined, and the step's cell is one of its rows
and columns, or lies on one of its lines (R3). -/
def Micro.fits (r : Pane) : Micro → Prop
  | .put col row _ _ => r.holds col row
  | .load col row => r.holds col row
  | .store col row => r.holds col row
  | .tint col row _ _ => r.holds col row
  | .read col row => r.holds col row
  | .clearCell line col => r.holdsOnLine line col
  | .text line col _ => r.holdsOnLine line col
  | .readOld col row => r.holds col row
  | .putCode col row _ => r.holds col row
  | .markEvent col row new _ =>
    r.defined = true ∧ col + new.length ≤ r.view.width ∧ row < r.view.height
  | .arrow col row _ => r.holds col row
  | .advance _ | .discard | .readBitmap _ _ _ | .refuse _ => True

/-- Every step the command in flight has left stays inside its pane (R3). -/
def State.FlightLaw (s : State) : Prop :=
  ∀ f, s.flight = some f → ∀ m ∈ f.todo, m.fits (s.pane f.pane)

/-- A step reads an old code of a TICK's field. -/
def Micro.readsOld : Micro → Bool
  | .readOld _ _ => true
  | .put _ _ _ _ | .load _ _ | .store _ _ | .tint _ _ _ _ | .read _ _ | .clearCell _ _ | .text _ _ _
  | .putCode _ _ _ | .markEvent _ _ _ _ | .arrow _ _ _ | .advance _ | .discard | .readBitmap _ _ _
  | .refuse _ => false

/-- A TICK in flight has a field of at most 16 cells, and the old codes it holds and those it has still
to read are as many (R58, R61). -/
def State.TickLaw (s : State) : Prop :=
  ∀ f, s.flight = some f → ∀ col row new digit, .markEvent col row new digit ∈ f.todo →
    new.length ≤ 16 ∧ f.old.length + (f.todo.filter Micro.readsOld).length = new.length

/-- A reservation stands only for the port whose command is in flight (R89). -/
abbrev State.ReservationLaw (s : State) : Prop :=
  ∀ x : Port, (s.port x).reserved ≠ 0 → s.flight.map Flight.port = some x

/-- No eligible port waits while the engine is empty: the arbiter grants it at once (R91). -/
abbrev State.ServedLaw (s : State) : Prop := s.arbiterPick = none

/-! ### Pictures (R169, R171) -/

/-- The displayed copies and the blink phase are the same in both states (R166, R169). -/
abbrev State.SameDisplay (s t : State) : Prop :=
  s.shownPanes = t.shownPanes ∧ s.shownStack = t.shownStack ∧ s.shownPalette = t.shownPalette ∧
    s.shownRamp = t.shownRamp ∧ s.shownStaleColour = t.shownStaleColour ∧
    s.shownCursor = t.shownCursor ∧ s.shownTiming = t.shownTiming ∧
    s.blink.phaseOn = t.blink.phaseOn

/-- How an event leads from one state to the next with respect to pictures: none goes back to an earlier
picture, frames begin again only with a frame start, and within one picture the displayed copies and the
blink phase stay (R151, R152, R166, R169, R171). -/
abbrev State.PictureLaw (s t : State) : Prop :=
  s.frameCount ≤ t.frameCount ∧
    (s.framesRun = false → t.framesRun = true → s.frameCount < t.frameCount) ∧
    (s.frameCount = t.frameCount → t.framesRun = true → s.SameDisplay t)

/-! ### A command carried out at once -/

/-- Port `x` can take a transfer and the engine would take a command `c` of it at once: the port is
ready with its select line high, nothing of it waits, it is RUNNING, its reply fits, the engine is
free, and no other port is eligible (R88-R90, R189). -/
def State.freeFor (s : State) (x : Port) (c : Command) : Bool :=
  s.ready x && !(s.port x).selLow && (s.port x).openT.isNone && (s.port x).queue.isEmpty &&
    (s.port x).faults.condition = .running && !(s.port x).waiting && (s.port x).reserved = 0 &&
    replyNeed (some c) ≤ (s.port x).room && s.flight.isNone &&
    !s.eligible (Port.after x) && !s.eligible (Port.after (Port.after x))

/-- What a transfer of `n` words that is no FETCH shifts out: the two status words, then fillers, as far
as it is clocked (R174). -/
def shiftedWords (statusA statusB : Word) (n : Nat) : List Word :=
  (statusA :: statusB :: List.replicate n fillerWord).take n

/-- The state in which the engine checks command `c` of port `x`: its transfer has been clocked in and
has left the queue again at the grant, its reply room is reserved (R89, R90, R174). -/
def State.delivered (s : State) (x : Port) (c : Command) : State :=
  { s with grantPtr := x }.updPort x fun p =>
    { p with
      sent := shiftedWords (s.statusA x) (s.statusB x) (encodeCommand c).length
      sentBits := []
      reserved := replyNeed (some c) }

/-- The state in which the engine carries command `c` of port `x` out: granted on the delivered state, its
execution begun (R87, R90). -/
def State.begun (s : State) (x : Port) (c : Command) : State :=
  beginCommand x c { s.delivered x c with
    flight := some ⟨x, encodeCommand c, Command.named c, [], none, []⟩ }

/-- A refused command leaves the delivered state with its code recorded and nothing reserved (R89,
R92). -/
def State.refusedWith (s : State) (x : Port) (c : Command) (code : RefusalCode) : State :=
  ((s.delivered x c).refuse x code).updPort x PortState.releaseReserved

/-- The pane whose owner alone may issue a command ("owner of p", R18); none for a command of any port. -/
def Command.ownerPane : Command → Option PaneId
  | .define p _ | .showPane p | .hidePane p | .dropPane p | .release p | .raise p | .lower p
  | .behind p _ | .setTop p _ _ | .roll p _ _ | .log p _ _ | .place p _ _ _ _
  | .sweep p _ _ _ _ _ _ _ | .shift p _ _ _ _ _ _ | .tint p _ _ _ _ _ _ | .tick p _ _ _ _ _
  | .cursor p _ _ _ _ _ => some p
  | .claim _ | .readCells _ _ _ _ | .wait | .glyph _ _ | .patch _ _ _ | .patchRows _ _
  | .patchCode _ _ | .unpatch _ | .readGlyph _ _ _ | .palette _ _ _ _ | .ramp _ _ _ _ _ _
  | .staleColour _ | .blink _ | .timing _ _ | .lock => none

/-! ### The checks of the commands (R92) -/

/-- The geometry passes the range checks of DEFINE (R15, R20). -/
def Geometry.allowed (g : Geometry) : Bool :=
  g.originCol ≤ 319 && g.originRow ≤ 179 && 1 ≤ g.width && g.width ≤ 320 && 1 ≤ g.height &&
    g.height ≤ 180 && 1 ≤ g.pitch && g.pitch ≤ 320 && (g.underline ≤ 15 || g.underline = 31) &&
    g.width ≤ g.pitch && g.height ≤ g.ringLines && g.frozen ≤ g.height &&
    g.base + g.pitch * g.ringLines ≤ Config.planeSize

/-- The addresses from `lo` up to below `hi` meet the working region of a defined pane that a port other
than `x` owns (R19). -/
def State.meetsForeign (s : State) (x : Port) (lo hi : Nat) : Bool :=
  (List.finRange 16).any fun q =>
    (s.pane q).view.state ≠ .undefined && (s.pane q).owner ≠ none && (s.pane q).owner ≠ some x &&
      lo < (s.pane q).view.regionEnd && (s.pane q).view.base < hi

/-- The checks of a command in the order its rule gives them: each as the condition that fails it, with
the code it then refuses with. -/
def State.checks (s : State) (x : Port) (c : Command) : List (Bool × RefusalCode) :=
  let isUndefined (p : PaneId) : Bool × RefusalCode := ((s.pane p).view.state = .undefined, .range)
  let v (p : PaneId) : PaneView := (s.pane p).view
  (match Command.ownerPane c with
    | some p => [(decide ((s.pane p).owner ≠ some x), .owner)]
    | none => []) ++
  match c with
  | .define _ g =>
    [(!Geometry.allowed g, .range), (s.meetsForeign x g.base (g.base + g.pitch * g.ringLines), .overlap)]
  | .showPane p | .hidePane p | .sweep p _ _ _ _ _ _ _ | .tint p _ _ _ _ _ _ | .roll p _ _ =>
    [isUndefined p]
  | .claim p =>
    [((s.pane p).owner ≠ none && (s.pane p).owner ≠ some x, .busy),
     ((s.pane p).owner = none && (s.pane p).hold ≠ none && (s.pane p).hold ≠ some x, .busy),
     ((s.pane p).owner = none && (s.pane p).view.state ≠ .undefined &&
        s.meetsForeign x (v p).base (v p).regionEnd, .overlap)]
  | .setTop p top _ =>
    [isUndefined p,
     ((v p).frozen < (v p).ringLines && (top < (v p).frozen || (v p).ringLines ≤ top), .range),
     ((v p).ringLines = (v p).frozen && top ≠ (v p).frozen, .range)]
  | .log p _ _ => [isUndefined p, ((v p).ringLines = (v p).frozen, .range)]
  | .place p row _ _ _ => [isUndefined p, ((v p).height ≤ row, .range)]
  | .shift p srow scol drow dcol _ _ =>
    [isUndefined p,
     ((v p).height ≤ srow || (v p).height ≤ drow || (v p).width ≤ scol || (v p).width ≤ dcol, .range)]
  | .tick p row col codes _ _ =>
    [isUndefined p, ((v p).height ≤ row, .range), ((v p).width < col + codes.length, .range),
     ((List.range codes.length).any fun i => (s.cell ((v p).cellAddr (col + i) row)).attr.guarded,
       .guarded)]
  | .readCells p row _ n =>
    [isUndefined p, ((v p).height ≤ row, .range), (n = 0 || 32 < n, .range)]
  | .glyph code _ => [(decide (code.val < 384), .range)]
  | .patch slot code _ | .patchCode slot code => [(7 < slot.val || 383 < code.val, .range)]
  | .patchRows slot _ | .unpatch slot => [(decide (7 < slot.val), .range)]
  | .readGlyph slotOption slot _ => [(slotOption && 7 < slot.val, .range)]
  | .ramp dir stage _ _ _ _ => [(dir = 3, .range), (decide (3 < stage.val), .range)]
  | .cursor _ _ _ _ _ mode =>
    [(mode = 3, .range), (s.cursor.mode ≠ .off && s.holder ≠ some x, .busy)]
  | .timing _ _ => [(s.timingLock, .timingLocked)]
  | .dropPane _ | .release _ | .raise _ | .lower _ | .behind _ _ | .wait | .palette _ _ _ _
  | .staleColour _ | .blink _ | .lock => []

/-- The code of the first check a command fails; none when it is taken (R92). -/
def State.verdict (s : State) (x : Port) (c : Command) : Option RefusalCode :=
  ((s.checks x c).find? Prod.fst).map Prod.snd

/-! ### Words to compare a next state with -/

/-- The panes other than `p` that are pinned, in stack order (R34-R36). -/
def State.pinnedOthers (s : State) (p : PaneId) : List PaneId :=
  s.stack.filter fun q => q ≠ p && (s.pane q).pinned

/-- The panes other than `p` that are not pinned, in stack order (R34-R36). -/
def State.unpinnedOthers (s : State) (p : PaneId) : List PaneId :=
  s.stack.filter fun q => q ≠ p && !(s.pane q).pinned

/-- The marks that code writes to the given addresses leave (R75). -/
def marksLeft (marks : List Mark) (written : List Nat) : List Mark :=
  marks.filter fun m => !written.any m.covers

/-- The addresses of cells of a pane, given as (column, logical row) (R41). -/
def PaneView.addresses (v : PaneView) (cells : List (Nat × Nat)) : List Nat :=
  cells.map fun e => v.cellAddr e.1 e.2

/-- Frame starts the first `k` stages of a direction last together (R77). -/
def DirRamp.lifetime (d : DirRamp) (k : Nat) : Nat :=
  ((List.range k).map fun i => (d.stage i).duration).sum

/-- The engine's state after a step of the command in flight: the steps left, or the end of the command
when none is, with the searches of the arbiter that follow (R87, R91). -/
def State.goOn (s : State) (f : Flight) (todo : List Micro) : State :=
  if todo = [] then
    State.arbitrate ({ s with flight := none }.updPort f.port fun p => { p with reserved := 0 })
  else { s with flight := some { f with todo := todo } }

/-- Every word a port has sent, is sending or will send from its buffer has good parity (R173). -/
abbrev PortState.OutParity (p : PortState) : Prop :=
  (∀ w ∈ p.reply, parityGood w = true) ∧ (∀ w ∈ p.sent, parityGood w = true) ∧
    ∀ o ∈ p.openT, parityGood o.statusB = true ∧ parityGood o.outWord = true

/-- The parity of the words of every port (R173). -/
abbrev State.OutParityLaw (s : State) : Prop := ∀ x : Port, (s.port x).OutParity

/-! ### Runs of events -/

/-- The single events that make up a command's transfer, at whose end it is granted, and `n` of its cell
accesses. -/
def eventsOf (x : Port) (c : Command) (n : Nat) : List Instr :=
  .transferStart x :: (encodeCommand c).map (.wordSampled x) ++ [.transferEnd x 0] ++
    List.replicate n .cellAccess

end Sys2Proof.Machine
end

