-- ==== Sys2Proof/WellFormed.lean ====
section
/-! DEFINITION. Which operands a command can carry: the field widths and word counts of R206 and R207.
A value outside its field has no encoding of its own; a code count outside R206's range makes a
transfer that its port judges with FORMAT (R177). -/

namespace Sys2Proof

/-- The DEFINE arguments that fit their fields (R207): ring lines is carried as L − 1. -/
def Geometry.WellFormed (g : Geometry) : Bool :=
  g.originCol < 512 && g.originRow < 512 && g.width < 512 && g.height < 512 &&
  g.base < 32768 && g.pitch < 512 && 1 ≤ g.ringLines && g.ringLines ≤ 32768 &&
  g.frozen < 512 && g.underline < 32

/-- The arguments fit their fields, and the transfer has a word count R206 allows. -/
def Command.WellFormed : Command → Bool
  | .define _ g => g.WellFormed
  | .setTop _ top fine => top < 32768 && fine < 16
  | .roll _ k _ => -16384 ≤ k && k ≤ 16383
  | .log _ _ codes => codes.length ≤ 124
  | .place _ row col _ codes => row < 512 && col < 512 && 1 ≤ codes.length && codes.length ≤ 124
  | .sweep _ row col w h _ _ _ => row < 512 && col < 512 && w < 512 && h < 512
  | .shift _ srow scol drow dcol w h =>
      srow < 512 && scol < 512 && drow < 512 && dcol < 512 && w < 512 && h < 512
  | .tint _ row col w h _ _ => row < 512 && col < 512 && w < 512 && h < 512
  | .tick _ row col codes _ _ => row < 512 && col < 512 && 1 ≤ codes.length && codes.length ≤ 16
  | .readCells _ row col n => row < 512 && col < 512 && n < 512
  | .palette _ r g b => r < 256 && g < 256 && b < 256
  | .ramp _ _ _ _ duration count => duration < 256 && count < 8
  | .blink period => period < 256
  | .cursor _ row col startScan endScan _ => row < 512 && col < 512 && startScan < 16 && endScan < 16
  | .timing _ height => height < 32
  | .showPane _ | .hidePane _ | .dropPane _ | .claim _ | .release _ | .raise _ | .lower _
  | .behind _ _ | .wait | .glyph _ _ | .patch _ _ _ | .patchRows _ _ | .patchCode _ _ | .unpatch _
  | .readGlyph _ _ _ | .staleColour _ | .lock => true

/-- The engine command an event row sends, if it is an engine transfer, and the port it is sent on. -/
def Instr.command : Instr → Option (Port × Command)
  | .define x p g => some (x, .define p g)
  | .showPane x p => some (x, .showPane p)
  | .hidePane x p => some (x, .hidePane p)
  | .dropPane x p => some (x, .dropPane p)
  | .claim x p => some (x, .claim p)
  | .release x p => some (x, .release p)
  | .raise x p => some (x, .raise p)
  | .lower x p => some (x, .lower p)
  | .behind x p q => some (x, .behind p q)
  | .setTop x p top fine => some (x, .setTop p top fine)
  | .roll x p k clr => some (x, .roll p k clr)
  | .log x p attr codes => some (x, .log p attr codes)
  | .place x p row col attr codes => some (x, .place p row col attr codes)
  | .sweep x p row col w h code attr override => some (x, .sweep p row col w h code attr override)
  | .shift x p srow scol drow dcol w h => some (x, .shift p srow scol drow dcol w h)
  | .tint x p row col w h attr mask => some (x, .tint p row col w h attr mask)
  | .tick x p row col codes digit arrow => some (x, .tick p row col codes digit arrow)
  | .readCells x p row col n => some (x, .readCells p row col n)
  | .wait x => some (x, .wait)
  | .glyph x code rows => some (x, .glyph code rows)
  | .patch x slot code rows => some (x, .patch slot code rows)
  | .patchRows x slot rows => some (x, .patchRows slot rows)
  | .patchCode x slot code => some (x, .patchCode slot code)
  | .unpatch x slot => some (x, .unpatch slot)
  | .readGlyph x slotOption slot code => some (x, .readGlyph slotOption slot code)
  | .palette x i r g b => some (x, .palette i r g b)
  | .ramp x dir stage fg bg duration count => some (x, .ramp dir stage fg bg duration count)
  | .staleColour x i => some (x, .staleColour i)
  | .blink x period => some (x, .blink period)
  | .cursor x p row col startScan endScan cm =>
      some (x, .cursor p row col startScan endScan cm)
  | .timing x preset height => some (x, .timing preset height)
  | .lock x => some (x, .lock)
  | .powerOnReset _ _ | .planeClearComplete _ | .clockLockAchieved _ | .lossOfLock | .frameStart _
  | .markStageExpiry _ | .blinkToggle | .transferStart _ | .transferEnd _ _ | .fetch _ _
  | .faults _ | .clear _ | .mode _ _ _ | .ident _ | .arbiterGrant | .commandCompletion
  | .retryExpiry _ | .portReset _ | .portResetRelease _ | .wakeClearPulse | .standbyEntry
  | .standbyExit | .wordSampled _ _ | .cellAccess | .resetAssertion => none

/-- The operands a row of the table can carry. A FETCH of 1 to 128 words is a good one (R177). -/
def Instr.WellFormed (i : Instr) : Bool :=
  match i with
  | .fetch _ words => 1 ≤ words && words ≤ 128
  | .markStageExpiry m => m < 192
  | i => match i.command with
    | some (_, c) => c.WellFormed
    | none => true

end Sys2Proof
end

