-- ==== Sys2Proof/Certificates/Slice0/Obligations.lean ====
section
/-! DEFINITION. The statements about the part. A statement about an engine command is about a port that
can send it and is served at once (`State.freeFor`), gives the whole next state, and so says what the
command leaves unchanged; `State.delivered` is the state its transfer and its grant leave, `verdict` the
code of the first check it fails. -/

open Sys2Proof Sys2Proof.Machine

/-! ### The step -/

/-- A step takes the event at the front of the queue and carries it out on the state with the rest; on an
empty queue the part idles (the model's choice, log 3). -/
def Obligations.StepTakesTheFrontEvent : Prop :=
  (∀ (i : Instr) (s : State), step { s with pending := i :: s.pending } = exec i s) ∧
    ∀ s : State, s.pending = [] → step s = .next s

/-- A transfer sent to a port that is not ready, or on a select line that is low already, changes nothing
(R189; the second is the model's choice, log 1). That no eligible port waits is a law of every step
(`Obligations.StepKeepsTheRecords`). -/
def Obligations.DeafPortTakesNothing : Prop :=
  ∀ (s : State) (x : Port),
    (s.port x).selLow = true ∨
      (s.ready x = false ∧ (s.port x).openT = none ∧ s.ServedLaw) →
    (∀ (i : Instr) (c : Command), i.command = some (x, c) → exec i s = .next s) ∧
      (∀ n, exec (.fetch x n) s = .next s) ∧ exec (.faults x) s = .next s ∧
      exec (.clear x) s = .next s ∧ exec (.ident x) s = .next s ∧
      ∀ cls m, exec (.mode x cls m) s = .next s

/-! ### Power -/

/-- POWER_ON_RESET takes every block to its reset values, with the owners and the preset of the straps;
the queue of events is not the part's to change. That the port lines keep their levels (log 11) and that
every cell holds the reset cell from this moment on, not only from the end of the clear (log 8), are the
model's choices, and so is that its count of frame starts stays (log 32). -/
def Obligations.PowerOnResetLeavesTheResetValues : Prop :=
  ∀ (osel tsel : Fin 4) (s : State), ∃ t, exec (.powerOnReset osel tsel) s = .next t ∧
    (t.phase = .clearing ∧ t.standby = false ∧ t.clock = .locking ∧
      ∀ a, t.cell a = ⟨32, ⟨7, 0, false, false, false, false, false⟩⟩) ∧
    (∀ p : PaneId,
      t.pane p =
        { view := ⟨.undefined, false, 0, 0, 1, 1, 0, 1, 1, 0, 0, 0, none⟩
          owner :=
            if osel = 0 then none
            else if osel = 1 then some .a
            else if osel = 2 then (if p.val ≤ 7 then some .a else some .b)
            else if p.val ≤ 5 then some .a
            else if p.val ≤ 11 then some .b
            else some .c
          hold := none
          pinned := false
          fill := ⟨32, ⟨7, 0, false, false, false, false, false⟩⟩ } ∧
      t.shownPane p = (t.pane p).view) ∧
    (t.stack = [0, 1, 2, 3, 4, 5, 6, 7, 8, 9, 10, 11, 12, 13, 14, 15] ∧ t.shownStack = t.stack) ∧
    t.marks = [] ∧
    ((∀ i : Fin 128, ∀ k : Fin 16, t.ramGlyphs[i][k] = 0) ∧
      ∀ i : Fin 8, (t.slots[i].code = 0 ∧ t.slots[i].enabled = false) ∧
        ∀ k : Fin 16, t.slots[i].bitmap[k] = 0) ∧
    (t.palette = paletteAtReset ∧ t.shownPalette = t.palette ∧ t.ramp = Ramp.atReset ∧
      t.shownRamp = t.ramp ∧ t.staleColour = 8 ∧ t.shownStaleColour = 8 ∧
      t.blink = ⟨32, none, 0, true⟩ ∧ t.cursor = ⟨0, 0, 0, 0, 15, .off⟩ ∧
      t.shownCursor = t.cursor ∧ t.holder = none) ∧
    (t.timing = ⟨tsel, 16⟩ ∧ t.shownTiming = t.timing ∧ t.timingLock = false) ∧
    (t.flight = none ∧ t.grantPtr = .c) ∧
    (∀ x : Port, t.port x =
      { PortState.atReset with held := (s.port x).held, selLow := (s.port x).selLow }) ∧
    t.frameCount = s.frameCount ∧ t.pending = s.pending

/-- RESET_ASSERTION empties the command in flight, every queue and reply buffer; from then on the output
is blank, every ATN line is low and nothing is granted. The clock stopped and the grant pointer set at
this moment are the model's choices (log 9, log 26). -/
def Obligations.ResetAssertionEndsEverything : Prop :=
  ∀ s : State, ∃ t, exec .resetAssertion s = .next t ∧
    (∀ x : Port, t.port x =
      { s.port x with openT := none, queue := [], reply := [], reserved := 0 }) ∧
    t = { s with phase := .inReset, standby := false, clock := .stopped, flight := none,
                 grantPtr := .c, ports := t.ports } ∧
    (∀ x : Port, t.ready x = false ∧ t.atnLow x = true) ∧
    (∀ live b, t.videoOut live b = ⟨⟨0, 0, 0⟩, false, false, false, false⟩) ∧ t.arbiterPick = none

/-- The power-on clear ends with every cell at its reset value and the ports that are not held ready; a
run of frames begins at the later of that moment and the clock's lock, at the frame start
`State.frameStart`, and the arbiter searches after it (R91). A LOCKED clock that loses lock goes to
LOCKING, CLOCK is set in every record and nothing else in it changes, and the output is blank (R14,
R149-R151, R205). In other states the events have no effect (log 4). -/
def Obligations.ClockLocksAndLosesLock : Prop :=
  ((∀ (o : LatchOrder) (s : State), s.phase = .clearing →
     ∃ u, exec (.planeClearComplete o) s = .next u.arbitrate ∧
       u = (if s.clock = .locked then { s with phase := .running, plane := [] }.frameStart o
         else { s with phase := .running, plane := [] }) ∧
       (∀ a, u.cell a = resetCell) ∧
         (s.standby = false → ∀ x, (s.port x).held = false → u.ready x = true)) ∧
   (∀ (o : LatchOrder) (s : State), s.clock = .locking →
     exec (.clockLockAchieved o) s =
       .next (State.arbitrate (if s.phase = .running then { s with clock := .locked }.frameStart o
         else { s with clock := .locked }))) ∧
   (∀ (o : LatchOrder) (s : State), s.phase ≠ .clearing →
     exec (.planeClearComplete o) s = .next s.arbitrate) ∧
   ∀ (o : LatchOrder) (s : State), s.clock ≠ .locking →
     exec (.clockLockAchieved o) s = .next s.arbitrate) ∧
  ((∀ s : State, s.clock = .locked → ∃ t, exec .lossOfLock s = .next t ∧
     (∀ x : Port, t.port x =
       { s.port x with faults :=
         { (s.port x).faults with sticky := { (s.port x).faults.sticky with clock := true } } }) ∧
     t = { s with clock := .locking, ports := t.ports } ∧ (∀ x : Port, t.atnLow x = true) ∧
     ∀ live b, t.videoOut live b = ⟨⟨0, 0, 0⟩, false, false, false, false⟩) ∧
   ∀ s : State, s.clock ≠ .locked → exec .lossOfLock s = .next s)

/-- The state after reset keeps every law of the part. -/
def Obligations.ResetKeepsEveryLaw : Prop :=
  State.reset.PlaneLaw ∧ State.reset.GeometryLaw ∧ State.reset.FlightLaw ∧ State.reset.RegionLaw ∧
    State.reset.StackLaw ∧ State.reset.MarkLaw ∧ State.reset.TickLaw ∧ State.reset.SlotLaw ∧ State.reset.CursorLaw ∧
    State.reset.TimerLaw ∧ State.reset.RecordLaw ∧ State.reset.BufferLaw ∧ State.reset.ReadyLaw ∧
    State.reset.ReservationLaw ∧ State.reset.OutParityLaw ∧ State.reset.ServedLaw

/-! ### Raster, marks and blink -/

/-- FRAME_START while frames run: every block's action at it, and nothing else but the arbiter's search,
since a port that waited may be eligible now (R91), and the model's own count of frame starts, one higher
(log 32). While no frames run no frame start comes (R152); that the row then has no effect but the search
is the model's choice (log 4). -/
def Obligations.FrameStartActsInEveryBlock : Prop :=
  (∀ (o : LatchOrder) (s : State), s.framesRun = true → ∃ t, exec (.frameStart o) s = .next t.arbitrate ∧
    t = s.frameStart o ∧
    (∀ p : PaneId, t.shownPane p = (s.pane p).view ∧ t.pane p = { s.pane p with hold := none }) ∧
    t.marks = s.marks.filterMap (Mark.aged (if o = .latchFirst then s.ramp else s.shownRamp)) ∧
    t.blink =
      (if s.blink.counter + 1 = s.blink.latch / 2 then
        ⟨s.blink.pending.getD s.blink.latch, none, 0, !s.blink.phaseOn⟩
      else { s.blink with counter := s.blink.counter + 1 }) ∧
    (∀ x : Port, t.port x = { s.port x with waiting := false }) ∧
    t = { s with
      panes := t.panes, shownPanes := t.shownPanes, shownStack := s.stack, marks := t.marks,
      shownPalette := s.palette, shownRamp := s.ramp, shownStaleColour := s.staleColour,
      blink := t.blink, shownCursor := s.cursor, ports := t.ports, shownTiming := s.timing,
      frameCount := s.frameCount + 1,
      clock := if s.timing.preset = s.shownTiming.preset then .locked else .locking }) ∧
  ∀ (o : LatchOrder) (s : State), s.framesRun = false →
    exec (.frameStart o) s = .next s.arbitrate

/-- A new mark, wherever it stands in the table, shows each stage of its ramp for that stage's duration and
is removed at the (d0 + … + d(c−1))th frame start after it was made, while the records before and behind it
become what they would become without it (R77). No command begins in that time. -/
def Obligations.MarkShowsEachStageForItsDuration : Prop :=
  ∀ (s : State) (o : LatchOrder) (m : Mark) (front back : List Mark) (n : Nat), s.framesRun = true →
    s.marks = front ++ m :: back → m.stage = 0 →
    m.left = ((s.ramp.dir m.dir).stage 0).duration → s.ramp.Legal → s.shownRamp = s.ramp →
    s.timing.preset = s.shownTiming.preset →
    (s.flight ≠ none ∨ ∀ x, (s.port x).queue = []) →
    ∃ t tf tb, runEvents (List.replicate n (.frameStart o)) s = .next t ∧
      runEvents (List.replicate n (.frameStart o)) { s with marks := front } = .next tf ∧
      runEvents (List.replicate n (.frameStart o)) { s with marks := back } = .next tb ∧
      (∀ k, k < (s.ramp.dir m.dir).count → (s.ramp.dir m.dir).lifetime k ≤ n →
        n < (s.ramp.dir m.dir).lifetime (k + 1) →
        t.marks = tf.marks ++
          { m with stage := k, left := (s.ramp.dir m.dir).lifetime (k + 1) - n } :: tb.marks) ∧
      ((s.ramp.dir m.dir).lifetime (s.ramp.dir m.dir).count ≤ n → t.marks = tf.marks ++ tb.marks)

/-- Through a run of frames with no BLINK pending and no command beginning, the blink phase changes at every
half period (R137). -/
def Obligations.BlinkPhaseFollowsThePeriod : Prop :=
  ∀ (s : State) (o : LatchOrder) (n : Nat), s.framesRun = true →
    s.timing.preset = s.shownTiming.preset → EvenPeriod s.blink.latch → s.blink.pending = none →
    s.blink.counter = 0 → (s.flight ≠ none ∨ ∀ x, (s.port x).queue = []) →
    ∃ t, runEvents (List.replicate n (.frameStart o)) s = .next t ∧
      t.blink =
        { s.blink with
          counter := n % (s.blink.latch / 2)
          phaseOn := s.blink.phaseOn != decide (n / (s.blink.latch / 2) % 2 = 1) }

/-- MARK_STAGE_EXPIRY and BLINK_TOGGLE are the frame starts at which they are due: at the first the record
named gets its next stage with that stage's duration, or goes, among the other records as they age; at the
second the phase toggles, the counter is 0 and the pending period is latched (R77, R137, R152). In which
order the latch and the ageing of R78 come at it is a free value (log 5). That each of these rows is a whole frame start, named by what comes about at it, is the model's reading (log 6), and so
is that they have no effect but the arbiter's search where they are not due (log 4). -/
def Obligations.StageExpiryAndToggle : Prop :=
  ((∀ (o : LatchOrder) (s : State) (place : Nat) (m : Mark) (ramp : Ramp), s.framesRun = true →
     s.marks[place]? = some m → m.left ≤ 1 →
     o = s.freeOrder → ramp = (if o = .latchFirst then s.ramp else s.shownRamp) →
     exec (.markStageExpiry place) s = exec (.frameStart o) s ∧
     exec (.markStageExpiry place) s = .next (s.frameStart o).arbitrate ∧
     (s.frameStart o).marks = (s.marks.take place).filterMap (Mark.aged ramp) ++
       (if (ramp.dir m.dir).count ≤ m.stage + 1 then []
       else [{ m with
         stage := m.stage + 1, left := ((ramp.dir m.dir).stage (m.stage + 1)).duration }]) ++
       (s.marks.drop (place + 1)).filterMap (Mark.aged ramp)) ∧
   ∀ (o : LatchOrder) (s : State), s.framesRun = true → s.blink.counter + 1 = s.blink.latch / 2 →
     o = s.freeOrder →
     exec .blinkToggle s = exec (.frameStart o) s ∧
     exec .blinkToggle s = .next (s.frameStart o).arbitrate ∧
     (s.frameStart o).blink =
       ⟨s.blink.pending.getD s.blink.latch, none, 0, !s.blink.phaseOn⟩) ∧
  (∀ (s : State) (place : Nat),
     s.framesRun = false ∨ (∀ m, s.marks[place]? = some m → 1 < m.left) →
     exec (.markStageExpiry place) s = .next s.arbitrate) ∧
  ∀ s : State, s.framesRun = false ∨ s.blink.counter + 1 ≠ s.blink.latch / 2 →
    exec .blinkToggle s = .next s.arbitrate

/-! ### The serial side of a port -/

/-- The two status words carry their fields, with good parity (R187, R188, R209). -/
def Obligations.StatusWordsCarryTheirFields : Prop :=
  ∀ (s : State) (x : Port), (s.port x).reply.length ≤ 64 →
    (parityGood (s.statusA x) = true ∧
      flagBit (s.statusA x) 14 = (s.port x).faults.sticky.any ∧
      flagBit (s.statusA x) 13 = decide ((s.port x).faults.condition = .halted) ∧
      flagBit (s.statusA x) 12 = decide ((s.port x).faults.condition = .paused) ∧
      (flagBit (s.statusA x) 11 = true ↔
        (s.port x).queue = [] ∧ (∀ f, s.flight = some f → f.port ≠ x) ∧
          (s.port x).waiting = false) ∧
      flagBit (s.statusA x) 10 = (s.port x).faults.sticky.clock ∧
      flagBit (s.statusA x) 9 = (s.port x).clip ∧
      field (s.statusA x) 0 7 = (s.port x).reply.length) ∧
    parityGood (s.statusB x) = true ∧
      field (s.statusB x) 0 8 = 128 - (s.port x).wordsHeld ∧
      field (s.statusB x) 12 3 = refusalNumber (s.port x).faults.lastRefusal

/-- TRANSFER_START on a ready port opens a transfer with the snapshot of both status words and drives
SDO_x with status word A, most significant bit first; a port that is not ready makes no record and drives
nothing, and SDO_x is high-impedance on any port whose select line is high or that is not ready (R172,
R174, R189). A line that is low already has no falling edge (log 4). -/
def Obligations.TransferStartOpensATransfer : Prop :=
  ∀ (s : State) (x : Port),
    ((s.port x).selLow = false → ∃ t, exec (.transferStart x) s = .next t ∧
      ∀ k : Fin 16, t.sdo x k =
        if s.ready x then some ((s.statusA x).getLsbD (15 - k.val)) else none) ∧
    ((s.port x).selLow = false ∨ s.ready x = false → ∀ k, s.sdo x k = none) ∧
    exec (.transferStart x) s = .next
      (if (s.port x).selLow = true then s
      else if s.ready x = true then
        s.setPort x { s.port x with
          selLow := true
          sent := []
          sentBits := []
          openT := some ⟨none, none, 0, 0, false, false, [], [], s.statusB x, s.statusA x, false⟩ }
      else s.setPort x { s.port x with selLow := true })

/-- WORD_SAMPLED in a transfer for the queue: the word joins the queue, bad parity is noted; a word that
finds 128 words held makes the transfer overrun; words after that are ignored; in each case the out word
beside it is complete and the next one begins (R173-R176; that it is chosen at this moment: log 14; that the
word that overruns is not counted, but its parity and a header are taken into the record: log 31). A port
with no transfer open takes no bit. The arbiter searches after each word (R91). -/
def Obligations.SampledWordJoinsTheQueue : Prop :=
  ∀ (s : State) (x : Port) (w : Word),
    ((s.port x).openT = none → exec (.wordSampled x w) s = .next s.arbitrate) ∧
    ∀ (o : OpenTransfer) (sent : List Word) (out : Word), (s.port x).openT = some o →
      s.ready x = true → o.outReply = false → sent = (s.port x).sent ++ [o.outWord] →
      out = (if sent.length = 1 then o.statusB else fillerWord) →
      (o.overrun = false → o.header = none → o.words = 0 → o.queued = [] →
        isService (headerCode w) = false →
        ((s.port x).wordsHeld < 128 →
          exec (.wordSampled x w) s = .next (s.setPort x { s.port x with
            sent := sent
            openT := some { o with
              header := some w, destination := some .queue, words := 1, queued := [w],
              paritySeen := !parityGood w, outWord := out } }).arbitrate) ∧
        (128 ≤ (s.port x).wordsHeld →
          exec (.wordSampled x w) s = .next (s.setPort x
            ({ s.port x with
              sent := sent
              openT := some { o with
                header := some w, destination := some .queue, overrun := true,
                paritySeen := !parityGood w, outWord := out } }.linkFault [.overrun])).arbitrate)) ∧
      ∀ h, o.header = some h → headerCode h ≠ 1 →
        (o.overrun = false → o.destination = some .queue →
          ((s.port x).wordsHeld < 128 →
            exec (.wordSampled x w) s = .next (s.setPort x { s.port x with
              sent := sent
              openT := some { o with
                words := o.words + 1, queued := o.queued ++ [w],
                paritySeen := o.paritySeen || !parityGood w, outWord := out } }).arbitrate) ∧
          (128 ≤ (s.port x).wordsHeld →
            exec (.wordSampled x w) s = .next (s.setPort x
              ({ s.port x with
                sent := sent
                openT := some { o with
                  overrun := true, queued := [], paritySeen := o.paritySeen || !parityGood w,
                  outWord := out } }.linkFault [.overrun])).arbitrate)) ∧
        (o.overrun = true →
          exec (.wordSampled x w) s = .next (s.setPort x { s.port x with
            sent := sent, openT := some { o with outWord := out } }).arbitrate)

/-- WORD_SAMPLED in a service transfer: the header and the first argument word are held, the later words
counted; bad parity is noted except in a FETCH after its header; after the two status words a FETCH whose
header is good shifts reply words, each leaving the buffer with its 16th bit, and empty markers when
there is none, every other transfer fillers (R174, R175, R183). That the next out word is fixed in the event
that completes the one before it is the model's reading (log 14). The arbiter searches after each word, since
a read may have room now (R91). -/
def Obligations.SampledServiceWordIsCounted : Prop :=
  ∀ (s : State) (x : Port) (w h : Word) (o : OpenTransfer) (sent reply : List Word),
    (s.port x).openT = some o → s.ready x = true → o.overrun = false →
    isService (headerCode h) = true → sent = (s.port x).sent ++ [o.outWord] →
    reply = (if o.outReply then (s.port x).reply.tail else (s.port x).reply) →
    (o.header = none ∧ h = w ∧ o.words = 0 ∧ o.heldWords = [] ∧ o.paritySeen = false) ∨
      (o.header = some h ∧ o.destination = some .assembler) →
    exec (.wordSampled x w) s = .next (s.setPort x { s.port x with
      sent := sent
      reply := reply
      openT := some { o with
        header := some h
        destination := some .assembler
        words := o.words + 1
        heldWords := if o.heldWords.length < 2 then o.heldWords ++ [w] else o.heldWords
        paritySeen :=
          o.paritySeen || (!parityGood w && (headerCode h ≠ 1 || o.header = none))
        outWord :=
          if sent.length = 1 then o.statusB
          else if headerCode h = 1 ∧ parityGood h = true then reply.head?.getD emptyMarker
          else fillerWord
        outReply :=
          sent.length ≠ 1 && headerCode h = 1 && parityGood h && !reply.isEmpty } }).arbitrate

/-- TRANSFER_END of a bad transfer: its LINK flags are recorded under the port's LINK mode (R177, R195), its
words are gone, and of the out word as many bits have been shifted as were sampled (R172). -/
def Obligations.LinkFaultActsByItsMode : Prop :=
  ∀ (s : State) (x : Port) (o : OpenTransfer) (k : Fin 16) (p : PortState) (r : FaultRecord)
    (flags : List Flag),
    (s.port x).selLow = true → (s.port x).openT = some o → o.overrun = false →
    flags = (if k.val ≠ 0 then [.framing] else []) ++ (if o.paritySeen then [.parity] else []) ++
      (if o.header.any (fun h => parityGood h && !countAllowed (headerCode h) o.words) then
        [.format] else []) →
    flags ≠ [] →
    p = { s.port x with
      selLow := false, openT := none
      sentBits := (List.range k.val).map fun i => o.outWord.getLsbD (15 - i) } →
    r = { p.faults with sticky := flags.foldl Sticky.set p.faults.sticky } →
    exec (.transferEnd x k) s = .next (s.setPort x
      (match p.faults.linkMode with
      | .ignore => p
      | .report => { p with faults := r }
      | .resumeFast => { p with faults :=
          if r.condition = .halted then { r with retry := none }
          else { r with condition := .paused, retry := some 2 } }
      | .resumeSlow => { p with faults :=
          if r.condition = .halted then { r with retry := none }
          else { r with condition := .paused, retry := some 50 } }
      | .latch => { p with
          faults := { r with condition := .halted, retry := none }
          queue := [] })).arbitrate

/-- TRANSFER_END of a transfer with nothing bad: a good engine transfer becomes complete at the tail of
the queue, or is removed on a HALTED port; a good service transfer is taken; an overrun one ends with no
further fault. With no transfer open the select line just rises. The arbiter searches after it (R91). On a
select line that is high already the event has no effect (log 4). -/
def Obligations.GoodTransferIsTakenAtItsEnd : Prop :=
  ∀ (s : State) (x : Port),
    ((s.port x).selLow = false → ∀ k, exec (.transferEnd x k) s = .next s.arbitrate) ∧
    ((s.port x).selLow = true →
      ((s.port x).openT = none → ∀ k, exec (.transferEnd x k) s =
        .next (s.setPort x { s.port x with selLow := false }).arbitrate) ∧
      ∀ (o : OpenTransfer) (p : PortState), (s.port x).openT = some o →
        p = { s.port x with selLow := false, openT := none, sentBits := [] } →
        (o.overrun = true → ∀ k, exec (.transferEnd x k) s = .next (s.setPort x
          { p with sentBits := (List.range k.val).map fun i =>
            o.outWord.getLsbD (15 - i) }).arbitrate) ∧
        (o.overrun = false → o.header = none → o.paritySeen = false →
          exec (.transferEnd x 0) s = .next (s.setPort x p).arbitrate) ∧
        ∀ h, o.overrun = false → o.header = some h → o.paritySeen = false → parityGood h = true →
          countAllowed (headerCode h) o.words = true →
          (o.destination = some .queue → exec (.transferEnd x 0) s = .next (s.setPort x
            (if p.faults.condition = .halted then p
            else { p with queue := p.queue ++ [o.queued] })).arbitrate) ∧
          (o.destination = some .assembler → exec (.transferEnd x 0) s = .next (s.setPort x
            (p.takeService (decide (s.clock = .locked)) (headerCode h) o.heldWords)).arbitrate))

/-- FETCH of n words shifts the two status words, then the oldest reply words, then empty markers; the
words shifted leave the buffer; a FETCH of more than 128 words records FORMAT besides (R183, R184). When no
read of the port gets room by it, nothing else changes; when the room it makes lets the read at the head of
the queue go on, the port is granted, and what was shifted is the same (R91). That no eligible port waited
before it is a law of every step (`Obligations.StepKeepsTheRecords`). -/
def Obligations.FetchShiftsTheReply : Prop :=
  ∀ (s : State) (x : Port) (n : Nat) (p : PortState), s.ServedLaw → s.ready x = true →
    (s.port x).selLow = false →
    p = { s.port x with
      openT := none
      sent := (s.statusA x :: s.statusB x :: (s.port x).reply ++
        List.replicate n emptyMarker).take n
      sentBits := []
      reply := (s.port x).reply.drop (n - 2) } →
    ((s.setPort x p).arbiterPick = none →
      exec (.fetch x n) s = .next (s.setPort x (if n ≤ 128 then p else p.linkFault [.format]))) ∧
    ((s.setPort x p).arbiterPick = some x → n ≤ 128 → ∃ t, exec (.fetch x n) s = .next t ∧
      t.grantPtr = x ∧ (t.port x).sent = p.sent ∧ (t.port x).reply = p.reply ∧
      (t.port x).openT = none)

/-- FAULTS and IDENT append their words when the room is enough for them, else they are dropped with
OVERRUN under the LINK mode (R182, R185, R198). -/
def Obligations.FaultsAndIdentReply : Prop :=
  ∀ (s : State) (x : Port) (p : PortState), s.ServedLaw → s.ready x = true →
    (s.port x).selLow = false →
    p = { s.port x with openT := none, sent := [s.statusA x], sentBits := [] } →
    exec (.faults x) s = .next (s.setPort x
      (if p.reply.length + p.reserved + 3 ≤ 64 then
        { p with reply := p.reply ++
          [mkWord (bitOf p.faults.sticky.clock 10 + bitOf p.faults.sticky.guarded 9 +
            bitOf p.faults.sticky.timingLocked 8 + bitOf p.faults.sticky.busy 7 +
            bitOf p.faults.sticky.overlap 6 + bitOf p.faults.sticky.range 5 +
            bitOf p.faults.sticky.owner 4 + bitOf p.faults.sticky.format 3 +
            bitOf p.faults.sticky.overrun 2 + bitOf p.faults.sticky.framing 1 +
            bitOf p.faults.sticky.parity 0),
           mkWord (p.faults.condition.number * 64 + p.faults.refuseMode.number * 8 +
            p.faults.linkMode.number),
           mkWord (refusalNumber p.faults.lastRefusal)] }
      else p.linkFault [.overrun])) ∧
    exec (.ident x) s = .next (s.setPort x
      (if p.reply.length + p.reserved + 4 ≤ 64 then
        { p with reply := p.reply ++ [mkWord 19217, mkWord 2316, mkWord 1, mkWord 32] }
      else p.linkFault [.overrun]))

/-- CLEAR clears the flags (CLOCK only while the clock is LOCKED), the code, the condition, the timer and
CLIP, and the arbiter then searches, since the port may be eligible now; MODE sets the mode of a class it
names and changes nothing else (R199, R200). -/
def Obligations.ClearAndModeChangeTheRecord : Prop :=
  ∀ (s : State) (x : Port) (p : PortState) (r : FaultRecord), s.ServedLaw → s.ready x = true →
    (s.port x).selLow = false → r = (s.port x).faults →
    (p = { s.port x with openT := none, sent := [s.statusA x], sentBits := [] } →
      exec (.clear x) s = .next (s.setPort x { p with
        clip := false
        faults :=
          { sticky := { Sticky.clear with clock := r.sticky.clock && s.clock ≠ .locked }
            linkMode := r.linkMode, refuseMode := r.refuseMode
            condition := .running, retry := none, lastRefusal := none } }).arbitrate) ∧
    (p = { s.port x with
        openT := none, sent := [s.statusA x, s.statusB x], sentBits := [] } →
      ∀ (cls : Fin 4) (m : Fin 8) (mode : Option FaultMode),
        mode = [FaultMode.ignore, .report, .resumeFast, .resumeSlow, .latch][m.val]? →
        exec (.mode x cls m) s = .next (s.setPort x
          (match mode with
          | none => p
          | some fm =>
            if cls = 0 then { p with faults := { r with linkMode := fm } }
            else if cls = 1 then { p with faults := { r with refuseMode := fm } }
            else p)))

/-- Every word the model makes for the wire has an odd count of ones, its contents in bits 14-0, and any
word of good parity is made so from its contents (R173). -/
def Obligations.ParityBitMakesTheOnesOdd : Prop :=
  (∀ n : Nat, parityGood (mkWord n) = true ∧ field (mkWord n) 0 15 = n % 32768) ∧
    ∀ w : Word, parityGood w = true → mkWord (field w 0 15) = w

/-! ### The arbiter and the engine -/

/-- The arbiter's search with the engine free grants the first eligible port in the order A, B, C, A after
the pointer: its head transfer leaves the queue, the command is in flight with its reply room reserved, and
it begins; the next search follows at once. With no port eligible, or a command in flight, nothing happens
(R88-R91). Eligibility is spelled out. That ARBITER_GRANT as a row of its own makes this search, where in a
run the events before it have made it, is the model's choice (log 2). -/
def Obligations.ArbiterGrantsInRotation : Prop :=
  (∀ (s : State) (x : Port), s.eligible x = true ↔
    s.phase = .running ∧ (s.port x).faults.condition = .running ∧ (s.port x).waiting = false ∧
      ∃ t rest, (s.port x).queue = t :: rest ∧
        (∀ p row col n, decodeCommand t = some (.readCells p row col n) → 1 ≤ n → n ≤ 32 →
          2 * n ≤ (s.port x).room) ∧
        (∀ b slot code, decodeCommand t = some (.readGlyph b slot code) → 8 ≤ (s.port x).room)) ∧
  (∀ (s : State) (x : Port) (t : List Word) (rest : List (List Word)) (c : Command),
    s.flight = none → s.eligible x = true → (s.port x).queue = t :: rest →
    decodeCommand t = some c →
    (x = Port.after s.grantPtr ∨
      (x = Port.after (Port.after s.grantPtr) ∧ s.eligible (Port.after s.grantPtr) = false) ∨
      (x = s.grantPtr ∧ s.eligible (Port.after s.grantPtr) = false ∧
        s.eligible (Port.after (Port.after s.grantPtr)) = false)) →
    exec .arbiterGrant s = .next (beginCommand x c
      ({ s with grantPtr := x, flight := some ⟨x, t, Command.named c, [], none, []⟩ }.setPort x
        { s.port x with
          queue := rest, reserved := (s.port x).reserved + replyNeed (some c) })).arbitrate) ∧
  ∀ s : State, s.flight ≠ none ∨ (∀ x, s.eligible x = false) →
    exec .arbiterGrant s = .next s ∧ s.arbitrate = s

/-- CELL_ACCESS does the next step of the command in flight and nothing else: one cell written or read,
or the mark event, or the top-line update, or CLIP for the codes a LOG discards; the command ends with its
last step, and the arbiter then searches (R51, R87, R91, R94). An address past the plane stops the model
(log 20). That READ_GLYPH's reading and the recording of a refusal are steps of this kind is the model's
choice (log 30, log 29). COMMAND_COMPLETION is the CELL_ACCESS of the last step: the command in flight is
emptied and nothing stays reserved; while more steps are left, or none is in flight, only the search is
made (R87, R89; log 4). -/
def Obligations.CellAccessAndCompletion : Prop :=
  (∀ (s : State) (f : Flight) (m : Micro) (rest : List Micro) (v : PaneView), s.flight = some f →
     f.todo = m :: rest → v = (s.pane f.pane).view →
     (∀ a, m.address v = some a → Config.planeSize ≤ a →
       exec .cellAccess s = .fault (.noSuchCell a)) ∧
     ((∀ a, m.address v = some a → a < Config.planeSize) →
       match m with
       | .put col row cell override =>
         exec .cellAccess s = .next (State.goOn
           (if (s.cell (v.cellAddr col row)).attr.guarded = true ∧ override = false then s
           else s.writeCell (v.cellAddr col row) cell) f (dropIdleMark f.old rest))
       | .load col row =>
         exec .cellAccess s = .next
           (s.goOn { f with held := some (s.cell (v.cellAddr col row)) } (dropIdleMark f.old rest))
       | .store col row =>
         exec .cellAccess s = .next (State.goOn
           (match f.held with
           | some cell => s.writeCell (v.cellAddr col row) cell
           | none => s) { f with held := none } (dropIdleMark f.old rest))
       | .tint col row attr mask =>
         exec .cellAccess s = .next ((s.writeAttr (v.cellAddr col row)
           (Attr.masked (s.cell (v.cellAddr col row)).attr attr mask)).goOn f
             (dropIdleMark f.old rest))
       | .read col row =>
         2 ≤ (s.port f.port).reserved → exec .cellAccess s = .next ((s.setPort f.port
           { s.port f.port with
             reply := (s.port f.port).reply ++
               [mkWord (s.cell (v.cellAddr col row)).code.val,
                mkWord (attrContents (s.cell (v.cellAddr col row)).attr)]
             reserved := (s.port f.port).reserved - 2 }).goOn f (dropIdleMark f.old rest))
       | .clearCell line col =>
         exec .cellAccess s = .next
           ((s.writeCell (v.base + line * v.pitch + col) (s.pane f.pane).fill).goOn f
             (dropIdleMark f.old rest))
       | .text line col cell =>
         exec .cellAccess s = .next
           ((s.writeCell (v.base + line * v.pitch + col) cell).goOn f (dropIdleMark f.old rest))
       | .readOld col row =>
         exec .cellAccess s = .next
           (s.goOn { f with old := f.old ++ [(s.cell (v.cellAddr col row)).code] }
             (dropIdleMark (f.old ++ [(s.cell (v.cellAddr col row)).code]) rest))
       | .putCode col row code =>
         exec .cellAccess s = .next
           ((s.writeFieldCode (v.cellAddr col row) code).goOn f (dropIdleMark f.old rest))
       | .markEvent col row new digit =>
         exec .cellAccess s = .next (State.goOn
           (match judge f.old new with
           | none => s
           | some dir => { s with
               marks := recordMark s.marks (v.cellAddr col row) new.length
                 (newMark s.shownRamp (v.cellAddr col row) f.old new dir digit) })
           f (dropIdleMark f.old rest))
       | .arrow col row new =>
         exec .cellAccess s = .next (State.goOn
           (if (s.cell (v.cellAddr col row)).attr.guarded = true then s
           else s.writeCell (v.cellAddr col row)
             { s.cell (v.cellAddr col row) with code := arrowCode (judge f.old new) })
           f (dropIdleMark f.old rest))
       | .advance c =>
         exec .cellAccess s = .next
           ((s.setView f.pane (v.advanced c)).goOn f (dropIdleMark f.old rest))
       | .discard =>
         exec .cellAccess s = .next
           ((s.setPort f.port { s.port f.port with clip := true }).goOn f (dropIdleMark f.old rest))
       | .readBitmap slotOption slot code =>
         8 ≤ (s.port f.port).reserved → exec .cellAccess s = .next ((s.setPort f.port
           { s.port f.port with
             reply := (s.port f.port).reply ++ (List.range 8).map fun i =>
               mkWord (pairContents (s.chosenRow slotOption slot code (2 * i))
                 (s.chosenRow slotOption slot code (2 * i + 1)))
             reserved := (s.port f.port).reserved - 8 }).goOn f (dropIdleMark f.old rest))
       | .refuse code =>
         exec .cellAccess s = .next ((s.setPort f.port
           (let p := s.port f.port
           let r := { p.faults with
             sticky := p.faults.sticky.set code.flag, lastRefusal := some code }
           match p.faults.refuseMode with
           | .ignore => { p with faults := { p.faults with lastRefusal := some code } }
           | .report => { p with faults := r }
           | .resumeFast => { p with faults :=
               if r.condition = .halted then { r with retry := none }
               else { r with condition := .paused, retry := some 2 } }
           | .resumeSlow => { p with faults :=
               if r.condition = .halted then { r with retry := none }
               else { r with condition := .paused, retry := some 50 } }
           | .latch => { p with
               faults := { r with condition := .halted, retry := none }, queue := [] })).goOn f
           (dropIdleMark f.old rest)))) ∧
  ((∀ (s : State) (f : Flight) (m : Micro) (rest : List Micro), s.flight = some f →
     f.todo = m :: rest →
     (dropIdleMark (m.progress f s).old rest = [] →
       exec .commandCompletion s = exec .cellAccess s ∧
         ∀ t, exec .commandCompletion s = .next t → ∃ u, engineStep s = .next u ∧
           t = u.arbitrate ∧ u.flight = none ∧ (u.port f.port).reserved = 0) ∧
     (dropIdleMark (m.progress f s).old rest ≠ [] → exec .commandCompletion s = .next s)) ∧
   (∀ (s : State) (f : Flight) (line col : Nat), s.flight = some f →
     f.todo = [.clearCell line col] →
     (s.pane f.pane).view.lineAddr line col < Config.planeSize →
     exec .commandCompletion s = .next (({ s.writeCell ((s.pane f.pane).view.lineAddr line col)
       (s.pane f.pane).fill with flight := none }).setPort f.port
         { s.port f.port with reserved := 0 }).arbitrate) ∧
   ∀ s : State, s.flight = none →
     exec .commandCompletion s = .next s.arbitrate ∧ exec .cellAccess s = .next s.arbitrate)

/-- A command sent on a port that is served at once is clocked in, granted at the end of its transfer and
carried out to its end in one step, on the state its transfer and grant leave (R90, R91). That the row runs
to the end is the model's choice among the interleavings R87-R94 allow (log 1, log 2). -/
def Obligations.WholeCommandIsCarriedOut : Prop :=
  ∀ (s : State) (i : Instr) (x : Port) (c : Command), i.command = some (x, c) →
    c.WellFormed = true → s.freeFor x c = true →
    exec i s = finishFlight (s.begun x c)

/-- A command row is no event of its own: it is its falling edge, its words, its rising edge, at which it is
granted, and as many cell accesses as the granted command has steps, one after another (R87, R90, R91,
R174-R178); after them the engine is empty. That a row of the table is such a run of events, carried to its
end, is the model's choice (log 1, log 2). -/
def Obligations.CommandRowIsItsEvents : Prop :=
  ∀ (s : State) (i : Instr) (x : Port) (c : Command), i.command = some (x, c) →
    c.WellFormed = true → s.freeFor x c = true →
    exec i s = runEvents (eventsOf x c (s.begun x c).stepsLeft) s ∧
      ∀ t, exec i s = .next t → t.flight = none

/-- A good engine transfer on a port that cannot be served at once waits at the tail of the queue; on a
HALTED port it is removed; one that finds the queue without room for it overruns and leaves the queue's
complete transfers as they stood (R176, R178). That no eligible port waited before it is a law of every step
(R91, `Obligations.StepKeepsTheRecords`). -/
def Obligations.UnservedCommandWaits : Prop :=
  ∀ (s : State) (i : Instr) (x : Port) (c : Command) (p : PortState),
    i.command = some (x, c) → c.WellFormed = true → s.ServedLaw → s.ready x = true →
    (s.port x).selLow = false → (s.port x).openT = none →
    (s.flight ≠ none ∨ (s.port x).queue ≠ [] ∨ (s.port x).faults.condition ≠ .running ∨
      (s.port x).waiting = true ∨ (s.port x).room < replyNeed (some c)) →
    p = { s.port x with
      sent := shiftedWords (s.statusA x) (s.statusB x) (encodeCommand c).length
      sentBits := [] } →
    (p.wordsHeld + (encodeCommand c).length ≤ 128 →
      exec i s = .next (s.setPort x (if p.faults.condition = .halted then p
        else { p with queue := p.queue ++ [encodeCommand c] }))) ∧
    (128 < p.wordsHeld + (encodeCommand c).length →
      exec i s = .next (s.setPort x (p.linkFault [.overrun])))

/-- Every command with its operands in their fields and a word count R206 allows comes back whole from
the words that carry it (R206-R210). -/
def Obligations.DecodeInvertsEncode : Prop :=
  ∀ c : Command, c.WellFormed = true → decodeCommand (encodeCommand c) = some c

/-- A command that fails a check is refused with the code of the first one it fails: the code is
recorded, the flag and the condition follow the REFUSE mode, and nothing else is changed (R92, R195). -/
def Obligations.RefusedCommandDoesNothingElse : Prop :=
  ∀ (s : State) (i : Instr) (x : Port) (c : Command) (code : RefusalCode),
    i.command = some (x, c) → c.WellFormed = true → s.freeFor x c = true →
    s.verdict x c = some code →
    exec i s = .next (((s.delivered x c).updPort x fun p =>
      let r := { p.faults with sticky := p.faults.sticky.set code.flag, lastRefusal := some code }
      match p.faults.refuseMode with
      | .ignore => { p with faults := { p.faults with lastRefusal := some code } }
      | .report => { p with faults := r }
      | .resumeFast => { p with faults := { r with condition := .paused, retry := some 2 } }
      | .resumeSlow => { p with faults := { r with condition := .paused, retry := some 50 } }
      | .latch => { p with
          faults := { r with condition := .halted, retry := none }, queue := [] }).updPort x
      fun p => { p with reserved := 0 })

/-! ### Panes and the stack -/

/-- A DEFINE that is taken writes the geometry, sets the top line to the frozen rows and the fine offset
to 0, makes an UNDEFINED pane HIDDEN, clears stale, keeps owner and hold, and moves the pane to the
boundary of the groups when it changes pinned (R21, R36). -/
def Obligations.DefineSetsTheRecord : Prop :=
  ∀ (s : State) (x : Port) (p : PaneId) (g : Geometry),
    (Command.define p g).WellFormed = true → s.freeFor x (.define p g) = true →
    s.verdict x (.define p g) = none → s.StackLaw →
    exec (.define x p g) s = .next
      { (s.delivered x (.define p g)).setPane p
          { view :=
              { state := if (s.pane p).view.state = .undefined then .hidden
                  else (s.pane p).view.state
                stale := false
                originCol := g.originCol, originRow := g.originRow
                width := g.width, height := g.height
                base := g.base, pitch := g.pitch, ringLines := g.ringLines, frozen := g.frozen
                top := g.frozen, fine := 0
                underlineRow := if g.underline = 31 then none else some g.underline }
            owner := some x, hold := (s.pane p).hold, pinned := g.pinned
            fill := ⟨g.fillCode, g.fillAttr⟩ } with
        stack := if g.pinned = (s.pane p).pinned then s.stack
          else s.pinnedOthers p ++ p :: s.unpinnedOthers p }

/-- SHOW sets SHOWN and clears stale; HIDE sets HIDDEN and leaves stale, pinned and geometry; the next
frame start brings either to the screen (R23, R24). DROP by the owner makes the pane UNDEFINED, clears
pinned and moves it to the back of the stack; its owner, stale, hold, cells and marks stay (R25). -/
def Obligations.ShowHideAndDrop : Prop :=
  (∀ (s : State) (x : Port) (p : PaneId),
     (s.freeFor x (.showPane p) = true → s.verdict x (.showPane p) = none →
       ∃ t, exec (.showPane x p) s = .next t ∧
         t = (s.delivered x (.showPane p)).setPane p { s.pane p with
           view := { (s.pane p).view with state := .shown, stale := false } } ∧
         ∀ o, (t.frameStart o).shownPane p =
           { (s.pane p).view with state := .shown, stale := false }) ∧
     (s.freeFor x (.hidePane p) = true → s.verdict x (.hidePane p) = none →
       ∃ t, exec (.hidePane x p) s = .next t ∧
         t = (s.delivered x (.hidePane p)).setPane p { s.pane p with
           view := { (s.pane p).view with state := .hidden } } ∧
         ∀ o, (t.frameStart o).shownPane p = { (s.pane p).view with state := .hidden })) ∧
  (∀ (s : State) (x : Port) (p : PaneId), s.freeFor x (.dropPane p) = true → s.StackLaw →
     (s.pane p).owner = some x →
     exec (.dropPane x p) s = .next
       { (s.delivered x (.dropPane p)).setPane p { s.pane p with
           view := { (s.pane p).view with state := .undefined }, pinned := false } with
         stack := (s.stack.filter fun q => q ≠ p) ++ [p] })

/-- The outcomes of CLAIM, in R26's order. RELEASE by the owner gives up the pane, stale, with hold for
the releaser; a cursor that is not OFF in it is turned off with its holder cleared (R27). -/
def Obligations.ClaimAndRelease : Prop :=
  (∀ (s : State) (x : Port) (p : PaneId), s.freeFor x (.claim p) = true →
     exec (.claim x p) s =
       (if (s.pane p).owner = some x then .next (s.delivered x (.claim p))
       else if (s.pane p).owner ≠ none then .next (s.refusedWith x (.claim p) .busy)
       else if (s.pane p).hold ≠ none ∧ (s.pane p).hold ≠ some x then
         .next (s.refusedWith x (.claim p) .busy)
       else if (s.pane p).view.state ≠ .undefined ∧
           s.meetsForeign x (s.pane p).view.base (s.pane p).view.regionEnd = true then
         .next (s.refusedWith x (.claim p) .overlap)
       else .next ((s.delivered x (.claim p)).setPane p
         { s.pane p with owner := some x, hold := none }))) ∧
  (∀ (s t : State) (x : Port) (p : PaneId), s.freeFor x (.release p) = true →
     (s.pane p).owner = some x →
     t = (s.delivered x (.release p)).setPane p { s.pane p with
       view := { (s.pane p).view with stale := true }, owner := none, hold := some x } →
     exec (.release x p) s = .next
       (if s.cursor.pane = p ∧ s.cursor.mode ≠ .off then
         { t with cursor := { s.cursor with mode := .off }, holder := none }
       else t))

/-- RAISE puts the pane at the front of its group, LOWER at the back; the others keep their order (R34,
R35). -/
def Obligations.RaiseAndLowerMoveInTheGroup : Prop :=
  ∀ (s : State) (x : Port) (p : PaneId), s.StackLaw → (s.pane p).owner = some x →
    (s.freeFor x (.raise p) = true →
      exec (.raise x p) s = .next { s.delivered x (.raise p) with
        stack :=
          if (s.pane p).pinned then p :: (s.pinnedOthers p ++ s.unpinnedOthers p)
          else s.pinnedOthers p ++ p :: s.unpinnedOthers p }) ∧
    (s.freeFor x (.lower p) = true →
      exec (.lower x p) s = .next { s.delivered x (.lower p) with
        stack :=
          if (s.pane p).pinned then s.pinnedOthers p ++ p :: s.unpinnedOthers p
          else s.pinnedOthers p ++ s.unpinnedOthers p ++ [p] })

/-- BEHIND puts p directly behind q where that keeps the pinned panes ahead, else at the boundary of the
groups; BEHIND p p keeps the order (R36). -/
def Obligations.BehindPlacesThePane : Prop :=
  ∀ (s : State) (x : Port) (p q : PaneId), s.StackLaw → (s.pane p).owner = some x →
    s.freeFor x (.behind p q) = true →
    ∃ order, exec (.behind x p q) s = .next { s.delivered x (.behind p q) with stack := order } ∧
      (p = q → order = s.stack) ∧
      (p ≠ q → (s.pane p).pinned = (s.pane q).pinned →
        ∃ front back, s.stack.filter (fun r => r ≠ p) = front ++ q :: back ∧
          order = front ++ q :: p :: back) ∧
      (p ≠ q → (s.pane p).pinned ≠ (s.pane q).pinned →
        order = s.pinnedOthers p ++ p :: s.unpinnedOthers p)

/-! ### Scrolling -/

/-- The row map sends the rows of a defined pane to different lines of its region, the frozen ones to
their own; a cell in its rows and columns lies in its region; moving the top line by c moves the text of
the scrolling rows up by c (R3, R41, R42). -/
def Obligations.RowMapStaysInsideTheRegion : Prop :=
  ∀ v : PaneView, v.Legal →
    (∀ r, r < v.height → v.lineOf r < v.ringLines) ∧
    (∀ r, r < v.frozen → v.lineOf r = r) ∧
    (∀ r q, r < v.height → q < v.height → v.lineOf r = v.lineOf q → r = q) ∧
    (∀ col r, col < v.width → r < v.height →
      v.base ≤ v.cellAddr col r ∧ v.cellAddr col r < v.base + v.pitch * v.ringLines ∧
        v.cellAddr col r < 32768) ∧
    (∀ c r, v.frozen ≤ r → r + c < v.height → (v.advanced c).lineOf r = v.lineOf (r + c)) ∧
    (v.frozen < v.height → (v.advanced 1).lineOf (v.height - 1) = v.entering)

/-- SET_TOP writes the top line and the fine offset; a ROLL without its clear, or backward, moves the top
line round the ring by the clamped count; a ROLL of 0, or on a pane with no ring proper, has no effect;
no cell and no mark is touched (R46, R47, R49). -/
def Obligations.TopLineMoves : Prop :=
  ∀ (s : State) (x : Port) (p : PaneId) (v : PaneView), v = (s.pane p).view →
    (∀ top fine, (Command.setTop p top fine).WellFormed = true →
      s.freeFor x (.setTop p top fine) = true → s.verdict x (.setTop p top fine) = none →
      exec (.setTop x p top fine) s = .next ((s.delivered x (.setTop p top fine)).setPane p
        { s.pane p with view := { v with top := top, fine := fine } })) ∧
    ∀ (k : Int) (clear : Bool), (Command.roll p k clear).WellFormed = true →
      s.freeFor x (.roll p k clear) = true → s.verdict x (.roll p k clear) = none → v.Legal →
      (v.ringLines = v.frozen ∨ k = 0 →
        exec (.roll x p k clear) s = .next (s.delivered x (.roll p k clear))) ∧
      (v.ringLines ≠ v.frozen → k < 0 ∨ (0 < k ∧ clear = false) →
        ∃ top : Nat, exec (.roll x p k clear) s = .next
            ((s.delivered x (.roll p k clear)).setPane p
              { s.pane p with view := { v with top := top } }) ∧
          ∀ c : Int, c = min k.natAbs (v.ringLines - v.frozen) →
            (top : Int) = v.frozen + ((v.top : Int) - v.frozen + (if 0 < k then c else -c)) %
              ((v.ringLines : Int) - v.frozen))

/-- A forward ROLL with its clear fills the c lines that enter, all pitch cells, with the fill cell,
guarded cells included, removes the marks over them, and then moves the top line (R47, R48). -/
def Obligations.RollWithClearBlanksTheLines : Prop :=
  ∀ (s : State) (x : Port) (p : PaneId) (k : Int) (v : PaneView) (c : Nat) (lines : List Nat),
    (Command.roll p k true).WellFormed = true → s.freeFor x (.roll p k true) = true →
    s.verdict x (.roll p k true) = none → v = (s.pane p).view → v.Legal → s.plane.wf = true →
    0 < k → v.frozen < v.ringLines → c = min k.natAbs (v.ringLines - v.frozen) →
    lines = (List.range c).map (fun i => v.frozen +
      ((v.top - v.frozen) + (v.height - v.frozen) + i) % (v.ringLines - v.frozen)) →
    ∃ t, exec (.roll x p k true) s = .next t ∧ t.plane.wf = true ∧
      (∀ line ∈ lines, ∀ col, col < v.pitch →
        t.cell (v.base + line * v.pitch + col) = (s.pane p).fill) ∧
      (∀ a, (∀ line ∈ lines, ∀ col, col < v.pitch → a ≠ v.base + line * v.pitch + col) →
        t.cell a = s.cell a) ∧
      t = { (s.delivered x (.roll p k true)).setPane p { s.pane p with
              view := { v with
                top := v.frozen + ((v.top - v.frozen) + c) % (v.ringLines - v.frozen) } } with
            plane := t.plane
            marks := marksLeft s.marks
              (lines.flatMap fun line => (List.range v.pitch).map fun col =>
                v.base + line * v.pitch + col) }

/-- A LOG that is taken clears the entering line, writes its codes below the width into it, removes the
marks over it, moves the top line by one and sets CLIP when codes are discarded (R50, R51). -/
def Obligations.LogWritesTheEnteringLine : Prop :=
  ∀ (s : State) (x : Port) (p : PaneId) (attr : Attr) (codes : List Code) (v : PaneView)
    (start : Nat),
    (Command.log p attr codes).WellFormed = true → s.freeFor x (.log p attr codes) = true →
    s.verdict x (.log p attr codes) = none → v = (s.pane p).view → v.Legal → s.plane.wf = true →
    start = v.base + (v.frozen + ((v.top - v.frozen) + (v.height - v.frozen)) %
      (v.ringLines - v.frozen)) * v.pitch →
    ∃ t, exec (.log x p attr codes) s = .next t ∧ t.plane.wf = true ∧
      (∀ col, col < v.pitch → t.cell (start + col) =
        if col < v.width then (codes[col]?.map (Cell.mk · attr)).getD (s.pane p).fill
        else (s.pane p).fill) ∧
      (∀ a, a < start ∨ start + v.pitch ≤ a → t.cell a = s.cell a) ∧
      t = { ((s.delivered x (.log p attr codes)).setClip x
              (decide (v.width < codes.length))).setPane p { s.pane p with
                view := { v with
                  top := v.frozen + ((v.top - v.frozen) + 1) % (v.ringLines - v.frozen) } } with
            plane := t.plane
            marks := marksLeft s.marks ((List.range v.pitch).map (start + ·)) }

/-! ### Cell commands -/

/-- PLACE writes code i at column col + i, for the columns below the width, in every cell whose guard is
off; it removes the marks over the cells it writes and sets CLIP when a code is discarded at the width
(R8, R95, R96). -/
def Obligations.PlaceWritesItsColumns : Prop :=
  ∀ (s : State) (x : Port) (p : PaneId) (row col : Nat) (attr : Attr) (codes : List Code)
    (v : PaneView) (written : List Nat),
    (Command.place p row col attr codes).WellFormed = true →
    s.freeFor x (.place p row col attr codes) = true →
    s.verdict x (.place p row col attr codes) = none → v = (s.pane p).view → v.Legal →
    s.plane.wf = true →
    written = ((List.range codes.length).filter fun i =>
      col + i < v.width && !(s.cell (v.cellAddr (col + i) row)).attr.guarded).map
        (fun i => v.cellAddr (col + i) row) →
    ∃ t, exec (.place x p row col attr codes) s = .next t ∧ t.plane.wf = true ∧
      (∀ (i : Nat) (code : Code), codes[i]? = some code → v.cellAddr (col + i) row ∈ written →
        col + i < v.width → t.cell (v.cellAddr (col + i) row) = ⟨code, attr⟩) ∧
      (∀ a, a ∉ written → t.cell a = s.cell a) ∧
      t = { (s.delivered x (.place p row col attr codes)).setClip x
              (decide (v.width < col + codes.length)) with
            plane := t.plane, marks := marksLeft s.marks written }

/-- SWEEP fills the cells of its rectangle that lie in the pane, the guarded ones only under override; it
removes the marks over the cells it writes and sets CLIP when a rectangle that is not empty is cut (R97,
R98). -/
def Obligations.SweepFillsTheRectangle : Prop :=
  ∀ (s : State) (x : Port) (p : PaneId) (row col w h : Nat) (code : Code) (attr : Attr)
    (override : Bool) (v : PaneView) (written : List Nat),
    (Command.sweep p row col w h code attr override).WellFormed = true →
    s.freeFor x (.sweep p row col w h code attr override) = true →
    s.verdict x (.sweep p row col w h code attr override) = none → v = (s.pane p).view → v.Legal →
    s.plane.wf = true →
    written = (v.addresses ((List.range v.height).flatMap fun r =>
      ((List.range v.width).filter fun k => row ≤ r && r < row + h && col ≤ k && k < col + w).map
        fun k => (k, r))).filter (fun a => override || !(s.cell a).attr.guarded) →
    ∃ t, exec (.sweep x p row col w h code attr override) s = .next t ∧ t.plane.wf = true ∧
      (∀ a ∈ written, t.cell a = ⟨code, attr⟩) ∧
      (∀ a, a ∉ written → t.cell a = s.cell a) ∧
      t = { (s.delivered x (.sweep p row col w h code attr override)).setClip x
              (decide (w ≠ 0 ∧ h ≠ 0 ∧ (v.width < col + w ∨ v.height < row + h))) with
            plane := t.plane, marks := marksLeft s.marks written }

/-- SHIFT leaves in the destination what the source held before it, guard included, whatever the overlap
and the guards there; it removes the marks over the destination and sets CLIP when the copy was reduced
(R99-R101). -/
def Obligations.ShiftCopiesTheRectangle : Prop :=
  ∀ (s : State) (x : Port) (p : PaneId) (srow scol drow dcol w h : Nat) (v : PaneView)
    (w' h' : Nat) (offsets : List (Nat × Nat)),
    (Command.shift p srow scol drow dcol w h).WellFormed = true →
    s.freeFor x (.shift p srow scol drow dcol w h) = true →
    s.verdict x (.shift p srow scol drow dcol w h) = none → v = (s.pane p).view → v.Legal →
    s.plane.wf = true →
    w' = min w (min (v.width - scol) (v.width - dcol)) →
    h' = min h (min (v.height - srow) (v.height - drow)) →
    offsets = (List.range h').flatMap (fun j => (List.range w').map fun i => (i, j)) →
    ∃ t, exec (.shift x p srow scol drow dcol w h) s = .next t ∧ t.plane.wf = true ∧
      (∀ e ∈ offsets, t.cell (v.cellAddr (dcol + e.1) (drow + e.2)) =
        s.cell (v.cellAddr (scol + e.1) (srow + e.2))) ∧
      (∀ a, (∀ e ∈ offsets, a ≠ v.cellAddr (dcol + e.1) (drow + e.2)) → t.cell a = s.cell a) ∧
      t = { (s.delivered x (.shift p srow scol drow dcol w h)).setClip x
              (decide (w' < w ∨ h' < h)) with
            plane := t.plane
            marks := marksLeft s.marks
              (v.addresses (offsets.map fun e => (dcol + e.1, drow + e.2))) }

/-- TINT sets the selected attribute fields of every cell of its rectangle in the pane, guarded cells
included; codes, the other fields and the marks stay; CLIP as SWEEP's, whatever the mask (R7, R102). -/
def Obligations.TintSetsTheSelectedFields : Prop :=
  ∀ (s : State) (x : Port) (p : PaneId) (row col w h : Nat) (attr : Attr) (mask : AttrMask)
    (v : PaneView) (reached : List Nat),
    (Command.tint p row col w h attr mask).WellFormed = true →
    s.freeFor x (.tint p row col w h attr mask) = true →
    s.verdict x (.tint p row col w h attr mask) = none → v = (s.pane p).view → v.Legal →
    s.plane.wf = true →
    reached = v.addresses ((List.range v.height).flatMap fun r =>
      ((List.range v.width).filter fun k => row ≤ r && r < row + h && col ≤ k && k < col + w).map
        fun k => (k, r)) →
    ∃ t, exec (.tint x p row col w h attr mask) s = .next t ∧ t.plane.wf = true ∧
      (∀ a ∈ reached, t.cell a =
        { code := (s.cell a).code
          attr :=
            { fg := if mask.fg then attr.fg else (s.cell a).attr.fg
              bg := if mask.bg then attr.bg else (s.cell a).attr.bg
              blink := if mask.blink then attr.blink else (s.cell a).attr.blink
              underline := if mask.underline then attr.underline else (s.cell a).attr.underline
              inverse := if mask.inverse then attr.inverse else (s.cell a).attr.inverse
              conceal := if mask.conceal then attr.conceal else (s.cell a).attr.conceal
              guarded := if mask.guarded then attr.guarded else (s.cell a).attr.guarded } }) ∧
      (∀ a, a ∉ reached → t.cell a = s.cell a) ∧
      t = { (s.delivered x (.tint p row col w h attr mask)).setClip x
              (decide (w ≠ 0 ∧ h ≠ 0 ∧ (v.width < col + w ∨ v.height < row + h))) with
            plane := t.plane }

/-- READ_CELLS appends a code word and an attribute word for each cell it reaches, in column order,
releases the rest of its reservation and sets CLIP when it reaches fewer than n cells (R89, R103, R104). -/
def Obligations.ReadCellsAppendsPairs : Prop :=
  ∀ (s : State) (x : Port) (p : PaneId) (row col n : Nat) (v : PaneView),
    (Command.readCells p row col n).WellFormed = true →
    s.freeFor x (.readCells p row col n) = true → s.verdict x (.readCells p row col n) = none →
    v = (s.pane p).view → v.Legal →
    exec (.readCells x p row col n) s = .next
      (((s.delivered x (.readCells p row col n)).setClip x (decide (v.width < col + n))).updPort x
        fun q => { q with
          reserved := 0
          reply := (s.port x).reply ++ (List.range (min n (v.width - col))).flatMap fun i =>
            [mkWord (s.cell (v.cellAddr (col + i) row)).code.val,
             mkWord (attrContents (s.cell (v.cellAddr (col + i) row)).attr)] })

/-! ### Tick writes -/

/-- The judgment of a TICK: equal texts are SAME; otherwise NEUTRAL when either is no number, else the
comparison of the values brought to one scale; the first changed position (R64-R66, R68). -/
def Obligations.JudgmentOfTheTwoTexts : Prop :=
  (∀ old : List Code, judge old old = none) ∧
  (∀ old new : List Code, old ≠ new →
    (parsePrice (old.map Fin.val) = none ∨ parsePrice (new.map Fin.val) = none) →
    judge old new = some .neutral) ∧
  (∀ (old new : List Code) (mo mn : Int) (qo qn q : Nat), old ≠ new →
    parsePrice (old.map Fin.val) = some (mo, qo) → parsePrice (new.map Fin.val) = some (mn, qn) →
    q = max qo qn →
    (judge old new = some .up ↔ mo * 10 ^ (q - qo) < mn * 10 ^ (q - qn)) ∧
      (judge old new = some .down ↔ mn * 10 ^ (q - qn) < mo * 10 ^ (q - qo)) ∧
      (judge old new = none ↔ mo * 10 ^ (q - qo) = mn * 10 ^ (q - qn))) ∧
  ∀ old new : List Code, old.length = new.length → old ≠ new →
    old.take (firstChange old new) = new.take (firstChange old new) ∧
      old[firstChange old new]? ≠ new[firstChange old new]?

/-- A text is a number exactly when, without its spaces at both ends, it is an optional sign, an integer
part of digits and commas with every comma directly between two digits, and an optional point with a
fraction of digits, one digit at least in all; its mantissa is the integer its digits spell, with its sign,
and its scale is the count of digits after the point; every other text is NaN (R62, R63). -/
def Obligations.PriceTextsAreRead : Prop :=
  (∀ (t : List Nat) (m : Int) (q : Nat), parsePrice t = some (m, q) ↔
    ∃ (a b : Nat) (sign whole point frac digits : List Nat),
      t = List.replicate a 32 ++ (sign ++ whole ++ point ++ frac) ++ List.replicate b 32 ∧
      (sign = [] ∨ sign = [43] ∨ sign = [45]) ∧
      (∀ c ∈ whole, c = 44 ∨ (48 ≤ c ∧ c ≤ 57)) ∧
      (∀ i, whole[i]? = some 44 → ∃ j d e, i = j + 1 ∧ whole[j]? = some d ∧ d ≠ 44 ∧
        whole[i + 1]? = some e ∧ e ≠ 44) ∧
      (point = [46] ∨ (point = [] ∧ frac = [])) ∧
      (∀ c ∈ frac, 48 ≤ c ∧ c ≤ 57) ∧
      digits = whole.filter (fun c => c ≠ 44) ++ frac ∧ digits ≠ [] ∧
      m = (if sign = [45] then -1 else 1) *
        (Nat.ofDigits 10 (digits.map fun c => c - 48).reverse : Nat) ∧
      q = frac.length) ∧
  ∀ (t : List Nat) (m : Int) (q : Nat), parsePrice t = some (m, q) → t.length ≤ 16 →
    m.natAbs < 10 ^ 16 ∧ q ≤ 15

/-- A TICK that passes its checks writes its codes and keeps the attributes; for UP, DOWN and NEUTRAL it
removes the marks over the field, evicts the head of a table still full, and appends the new mark; the
arrow code goes into the unguarded cell left of the field, removing the marks over it; never CLIP (R60,
R67, R69, R70, R73, R74). -/
def Obligations.TickRewritesAndMarks : Prop :=
  ∀ (s : State) (x : Port) (p : PaneId) (row col : Nat) (codes : List Code) (digit arrow : Bool)
    (v : PaneView) (old : List Code) (dir : Option Direction) (k : Nat) (at_ : Nat → Nat)
    (kept marked : List Mark) (arrowDrawn : Bool),
    (Command.tick p row col codes digit arrow).WellFormed = true →
    s.freeFor x (.tick p row col codes digit arrow) = true →
    s.verdict x (.tick p row col codes digit arrow) = none → v = (s.pane p).view → v.Legal →
    s.plane.wf = true →
    at_ = (fun i => v.cellAddr i row) →
    old = (List.range codes.length).map (fun i => (s.cell (at_ (col + i))).code) →
    dir = judge old codes → k = (if digit then firstChange old codes else 0) →
    kept = s.marks.filter (fun m =>
      !decide (m.start < at_ col + codes.length ∧ at_ col < m.start + m.length)) →
    marked = (match dir with
      | none => s.marks
      | some d => (if 192 ≤ kept.length then kept.tail else kept) ++
          [⟨at_ (col + k), codes.length - k, d, 0, ((s.shownRamp.dir d).stage 0).duration⟩]) →
    arrowDrawn = (arrow && col ≠ 0 && !(s.cell (at_ (col - 1))).attr.guarded) →
    ∃ t, exec (.tick x p row col codes digit arrow) s = .next t ∧ t.plane.wf = true ∧
      (∀ (i : Nat) (code : Code), codes[i]? = some code →
        t.cell (at_ (col + i)) = { s.cell (at_ (col + i)) with code := code }) ∧
      (arrowDrawn = true → t.cell (at_ (col - 1)) = { s.cell (at_ (col - 1)) with
        code :=
          if dir = some .up then 286 else if dir = some .down then 287 else 32 }) ∧
      (∀ a, (∀ i, i < codes.length → a ≠ at_ (col + i)) →
        (arrowDrawn = true → a ≠ at_ (col - 1)) → t.cell a = s.cell a) ∧
      t = { s.delivered x (.tick p row col codes digit arrow) with
            plane := t.plane
            marks := if arrowDrawn then marksLeft marked [at_ (col - 1)] else marked }

/-! ### Glyphs -/

/-- Eight row-pair words load a bitmap, pixel 7 of a pair from one bit, and reading it back gives the
words it was loaded from; that bits 14-8 and 7-1 run from pixel 0 to pixel 6 is the model's reading
(log 16) (R115, R210). -/
def Obligations.BitmapsCrossThePort : Prop :=
  ∀ rows : RowPairs,
    (∀ (i : Fin 8) (k : Nat), k < 7 →
      pixelOn ((bitmapOf rows).row (2 * i.val)) k = rows[i].getLsbD (14 - k) ∧
        pixelOn ((bitmapOf rows).row (2 * i.val + 1)) k = rows[i].getLsbD (7 - k)) ∧
    (∀ i : Fin 8,
      pixelOn ((bitmapOf rows).row (2 * i.val)) 7 = rows[i].getLsbD 0 ∧
        pixelOn ((bitmapOf rows).row (2 * i.val + 1)) 7 = rows[i].getLsbD 0) ∧
    readBackWords (bitmapOf rows).row = rows.toList.map fun r => mkWord r.toNat

/-- GLYPH replaces one RAM glyph; PATCH, PATCH_ROWS, PATCH_CODE and UNPATCH change their slot, and the
two that enable one disable any other slot enabled on the same code (R119-R123). -/
def Obligations.GlyphCommandsChangeTheStore : Prop :=
  ∀ (s : State) (x : Port) (code : Code) (rows : RowPairs) (slot : Fin 16),
    (s.freeFor x (.glyph code rows) = true → s.verdict x (.glyph code rows) = none →
      ∃ t, exec (.glyph x code rows) s = .next t ∧
        (∀ i : Fin 128, t.ramGlyphs[i] =
          if i.val + 384 = code.val then bitmapOf rows else s.ramGlyphs[i]) ∧
        t = { s.delivered x (.glyph code rows) with ramGlyphs := t.ramGlyphs }) ∧
    (s.freeFor x (.patch slot code rows) = true → s.verdict x (.patch slot code rows) = none →
      ∃ t, exec (.patch x slot code rows) s = .next t ∧
        (∀ i : Fin 8, t.slots[i] =
          if i.val = slot.val then ⟨code, true, bitmapOf rows⟩
          else if s.slots[i].code = code then { s.slots[i] with enabled := false }
          else s.slots[i]) ∧
        t = { s.delivered x (.patch slot code rows) with slots := t.slots }) ∧
    (s.freeFor x (.patchRows slot rows) = true → s.verdict x (.patchRows slot rows) = none →
      ∃ t, exec (.patchRows x slot rows) s = .next t ∧
        (∀ i : Fin 8, t.slots[i] =
          if i.val = slot.val then { s.slots[i] with bitmap := bitmapOf rows } else s.slots[i]) ∧
        t = { s.delivered x (.patchRows slot rows) with slots := t.slots }) ∧
    (s.freeFor x (.patchCode slot code) = true → s.verdict x (.patchCode slot code) = none →
      ∃ t, exec (.patchCode x slot code) s = .next t ∧
        (∀ i : Fin 8, t.slots[i] =
          if i.val = slot.val then { s.slots[i] with code := code, enabled := true }
          else if s.slots[i].code = code then { s.slots[i] with enabled := false }
          else s.slots[i]) ∧
        t = { s.delivered x (.patchCode slot code) with slots := t.slots }) ∧
    (s.freeFor x (.unpatch slot) = true → s.verdict x (.unpatch slot) = none →
      ∃ t, exec (.unpatch x slot) s = .next t ∧
        (∀ i : Fin 8, t.slots[i] =
          if i.val = slot.val then { s.slots[i] with enabled := false } else s.slots[i]) ∧
        t = { s.delivered x (.unpatch slot) with slots := t.slots })

/-- READ_GLYPH appends the eight words of the slot's bitmap, or of the unpatched glyph of the code, and
leaves nothing reserved (R126, R127). -/
def Obligations.ReadGlyphAppendsABitmap : Prop :=
  ∀ (s : State) (x : Port) (slotOption : Bool) (slot : Fin 16) (code : Code) (row : Nat → BitVec 8),
    s.freeFor x (.readGlyph slotOption slot code) = true →
    s.verdict x (.readGlyph slotOption slot code) = none →
    (slotOption = true → ∀ i : Fin 8, i.val = slot.val → row = s.slots[i].bitmap.row) →
    (slotOption = false → ∀ i : Fin 128, i.val + 384 = code.val → row = s.ramGlyphs[i].row) →
    (slotOption = false → code.val < 384 → row = romRow code.val) →
    exec (.readGlyph x slotOption slot code) s = .next
      ((s.delivered x (.readGlyph slotOption slot code)).updPort x fun q => { q with
        reserved := 0
        reply := (s.port x).reply ++ (List.range 8).map fun i =>
          mkWord (pairContents (row (2 * i)) (row (2 * i + 1))) })

/-! ### Colour unit and raster settings -/

/-- PALETTE, STALE_COLOUR, BLINK and WAIT change their one item, from any port, and nothing else (R105,
R130, R135, R138). A CURSOR that is taken writes the six fields and sets the holder, or clears it for
OFF (R142). -/
def Obligations.SettingsAndCursor : Prop :=
  (∀ (s : State) (x : Port),
     (∀ (i : Index) (r g b : Nat), (Command.palette i r g b).WellFormed = true →
       s.freeFor x (.palette i r g b) = true →
       ∃ t, exec (.palette x i r g b) s = .next t ∧
         (∀ j : Index, t.palette[j] = if j = i then ⟨r, g, b⟩ else s.palette[j]) ∧
         t = { s.delivered x (.palette i r g b) with palette := t.palette }) ∧
     (∀ i : Index, s.freeFor x (.staleColour i) = true →
       exec (.staleColour x i) s = .next { s.delivered x (.staleColour i) with staleColour := i }) ∧
     (∀ period : Nat, (Command.blink period).WellFormed = true →
       s.freeFor x (.blink period) = true →
       ∃ taken, exec (.blink x period) s = .next { s.delivered x (.blink period) with
           blink := { s.blink with pending := some taken } } ∧
         EvenPeriod taken ∧ (2 ≤ period → period ≤ 254 → taken = period - period % 2) ∧
         (period < 2 → taken = 2) ∧ (254 < period → taken = 254)) ∧
     (s.freeFor x .wait = true →
       exec (.wait x) s = .next ((s.delivered x .wait).updPort x fun q => { q with waiting := true }))) ∧
  (∀ (s : State) (x : Port) (p : PaneId) (row col startScan endScan : Nat) (mode : Fin 4),
     (Command.cursor p row col startScan endScan mode).WellFormed = true →
     s.freeFor x (.cursor p row col startScan endScan mode) = true →
     s.verdict x (.cursor p row col startScan endScan mode) = none →
     exec (.cursor x p row col startScan endScan mode) s = .next
       { s.delivered x (.cursor p row col startScan endScan mode) with
         cursor := ⟨p, row, col, startScan, endScan,
           if mode = 0 then .off else if mode = 1 then .steady else .blink⟩
         holder := if mode = 0 then none else some x })

/-- RAMP sets one stage and the stage count of one direction, a duration of 0 taken as 1 and the count
clamped to 1-4; the other stages and directions stay (R133). -/
def Obligations.RampSetsOneStage : Prop :=
  ∀ (s : State) (x : Port) (dir : Fin 4) (stage : Fin 16) (fg bg : StageColour)
    (duration count : Nat) (d : Direction),
    (Command.ramp dir stage fg bg duration count).WellFormed = true →
    s.freeFor x (.ramp dir stage fg bg duration count) = true →
    s.verdict x (.ramp dir stage fg bg duration count) = none →
    d = (if dir = 0 then .up else if dir = 1 then .down else .neutral) →
    ∃ t, exec (.ramp x dir stage fg bg duration count) s = .next t ∧
      (∀ e, e ≠ d → t.ramp.dir e = s.ramp.dir e) ∧
      (∀ k : Fin 4, (t.ramp.dir d).stages[k] =
        if k.val = stage.val then ⟨fg, bg, if duration = 0 then 1 else duration⟩
        else (s.ramp.dir d).stages[k]) ∧
      (t.ramp.dir d).count = (if count = 0 then 1 else if 4 < count then 4 else count) ∧
      t = { s.delivered x (.ramp dir stage fg bg duration count) with ramp := t.ramp }

/-- TIMING writes the working timing, the height clamped to 8-16; LOCK sets the timing lock and nothing
else; no step but a power-on reset clears it, and under it every TIMING is refused (R154, R155). -/
def Obligations.TimingAndItsLock : Prop :=
  (∀ (s : State) (x : Port) (preset : Fin 4) (height : Nat),
    (Command.timing preset height).WellFormed = true → s.freeFor x (.timing preset height) = true →
    exec (.timing x preset height) s = .next
      (if s.timingLock = true then s.refusedWith x (.timing preset height) .timingLocked
      else { s.delivered x (.timing preset height) with
        timing := ⟨preset, if height < 8 then 8 else if 16 < height then 16 else height⟩ })) ∧
  (∀ (s : State) (x : Port), s.freeFor x .lock = true →
    exec (.lock x) s = .next { s.delivered x .lock with timingLock := true }) ∧
  ∀ (s t : State), s.timingLock = true → step s = .next t →
    t.timingLock = true ∨ ∃ osel tsel rest, s.pending = .powerOnReset osel tsel :: rest

/-! ### Composition -/

/-- While no frames run the output is blank; in the blanking intervals the colour is 0, DE is low, and HS
and VS are the pulses; DE is high on the displayed preset's picture and nowhere else. Leftover lines and
positions no SHOWN pane covers show entry 0; a pixel of a pane shows the foreground or background of its
cell by the steps R160-R168: mark, stale, inverse, glyph, underline, conceal, blink, cursor. The cell, its
mark and the glyph row are those of the state `live` of the fetch when it is a state of the same picture,
in which frames run, and else those of the output itself; the rest is the displayed state (R169). Along
any run the displayed copies and the blink phase stay while the picture does (R166), and after an interval without frames no state
from before its end is a fetch of what is drawn, so all its changes show (R169, R171). On successive lines
each fetch follows the output above. How far ahead a fetch is, is left out (log 18), and pictures are told
apart by the model's count of frame starts (log 32). -/
def Obligations.CompositionFollowsItsSteps : Prop :=
  (∀ (s live fetched : State) (width lines h : Nat),
    [(1920, 1080), (1920, 1200), (1280, 1024), (2560, 1440)][s.shownTiming.preset.val]? =
      some (width, lines) → h = s.shownTiming.height →
    fetched = (if s.framesRun = true ∧ live.framesRun = true ∧ live.frameCount = s.frameCount then live
      else s) →
    (s.framesRun = false →
      ∀ b, s.videoOut live b = ⟨⟨0, 0, 0⟩, false, false, false, false⟩) ∧
    (s.framesRun = true →
      (∀ hPulse vPulse, s.videoOut live (.blanking hPulse vPulse) =
        ⟨⟨0, 0, 0⟩, hPulse, vPulse, false, true⟩) ∧
      (∀ x y, x < width → y < lines →
        s.videoOut live (.active x y) = ⟨s.pixel live x y, false, false, true, true⟩) ∧
      ∀ x y, width ≤ x ∨ lines ≤ y →
        s.videoOut live (.active x y) = ⟨⟨0, 0, 0⟩, false, false, false, true⟩) ∧
    ∀ x y : Nat, x < width → y < lines →
      (lines / h * h ≤ y → s.pixel live x y = s.shownPalette[(0 : Fin 16)]) ∧
      (y < lines / h * h →
        ((∀ p ∈ s.shownStack, (s.shownPane p).covers (x / 8) (y / h) = false) →
          s.pixel live x y = s.shownPalette[(0 : Fin 16)]) ∧
        ∀ (front back : List PaneId) (p : PaneId) (v : PaneView) (pr pc yy : Nat),
          s.shownStack = front ++ p :: back →
          (∀ q ∈ front, (s.shownPane q).covers (x / 8) (y / h) = false) → v = s.shownPane p →
          v.covers (x / 8) (y / h) = true → pr = y / h - v.originRow → pc = x / 8 - v.originCol →
          yy = (pr - v.frozen) * h + y % h + min v.fine (h - 1) →
          ∀ (logical line scan a : Nat) (cell : Cell) (marked staled last : Index × Index)
              (glyph on drawn : Bool) (k : Cursor),
            logical = (if pr < v.frozen then pr else v.frozen + yy / h) →
            line = (if pr < v.frozen then pr
              else v.frozen + ((v.top - v.frozen) + yy / h) % (v.ringLines - v.frozen)) →
            scan = (if pr < v.frozen then y % h else yy % h) →
            a = v.base + line * v.pitch + pc → cell = fetched.cell a →
            ((fetched.marks.find? fun m => m.covers a) = none →
              marked = (cell.attr.fg, cell.attr.bg)) →
            (∀ m, (fetched.marks.find? fun m => m.covers a) = some m →
              marked =
                if m.stage < (s.shownRamp.dir m.dir).count then
                  (StageColour.over ((s.shownRamp.dir m.dir).stage m.stage).fg cell.attr.fg,
                   StageColour.over ((s.shownRamp.dir m.dir).stage m.stage).bg cell.attr.bg)
                else (cell.attr.fg, cell.attr.bg)) →
            staled = (if v.stale then s.shownStaleColour else marked.1, marked.2) →
            last = (if cell.attr.inverse then (staled.2, staled.1) else staled) →
            (∀ i : Fin 8, cell.code.val < 384 → fetched.slots[i].enabled = true →
              fetched.slots[i].code = cell.code →
              glyph = pixelOn (fetched.slots[i].bitmap.row scan) (x % 8)) →
            (cell.code.val < 384 →
              (∀ i : Fin 8, fetched.slots[i].enabled = true → fetched.slots[i].code ≠ cell.code) →
              glyph = romPixel cell.code.val scan (x % 8)) →
            (∀ i : Fin 128, i.val + 384 = cell.code.val →
              glyph = pixelOn (fetched.ramGlyphs[i].row scan) (x % 8)) →
            on = ((glyph || (cell.attr.underline && v.underlineRow = some scan)) &&
              !cell.attr.conceal && !(cell.attr.blink && !s.blink.phaseOn)) →
            k = s.shownCursor →
            drawn = decide ((k.mode = .steady ∨ (k.mode = .blink ∧ s.blink.phaseOn = true)) ∧
              k.startScan ≤ k.endScan ∧ k.startScan < h ∧ k.pane = p ∧ k.row < v.height ∧
              k.col < v.width ∧ k.col = pc ∧ k.row = logical ∧ k.startScan ≤ scan ∧
              scan ≤ min k.endScan (h - 1)) →
            s.pixel live x y = s.shownPalette[if on = drawn then last.2 else last.1])) ∧
  (∀ (events : List Instr) (s t : State), runEvents events s = .next t → t.framesRun = true →
    (s.frameCount = t.frameCount → s.framesRun = true ∧ s.SameDisplay t) ∧
    (s.framesRun = false → ∀ old : State, old.frameCount ≤ s.frameCount →
      ∀ beam, t.videoOut old beam = t.videoOut t beam)) ∧
  ∀ (x y : Nat) (r : RowEvents) (rest : List RowEvents) (s live out : State),
    runEvents r.beforeFetch s = .next live → runEvents r.beforeOutput live = .next out →
    drawRows x y (r :: rest) s = out.videoOut live (.active x y) :: drawRows x (y + 1) rest out

/-! ### Lines -/

/-- RETRY_EXPIRY sets a PAUSED port RUNNING with its timer stopped, flags and code kept; a clear pulse on
WAKE does a CLEAR on every record; after either the arbiter searches, since a port may be eligible now
(R91, R197, R202). Standby entry stops the clock, discards the open transfers and makes no port ready;
standby exit sets the clock LOCKING and makes the ports that are not held ready; nothing else changes (R157,
R190, R203, R204). That these rows have no effect but the search where they cannot come (the expiry of a
stopped timer, WAKE's low in standby, its exit outside standby) is the model's choice (log 4). -/
def Obligations.RetryWakeAndStandby : Prop :=
  ((∀ (s : State) (x : Port),
     exec (.retryExpiry x) s = .next
       (if (s.port x).faults.condition = .paused ∧ (s.port x).faults.retry ≠ none then
         s.setPort x { s.port x with
           faults := { (s.port x).faults with condition := .running, retry := none } }
       else s).arbitrate) ∧
   (∀ s : State, s.phase = .running → s.standby = false →
     ∃ t : State, exec .wakeClearPulse s = .next t.arbitrate ∧
     (∀ x : Port, t.port x = { s.port x with
       clip := false
       faults := { (s.port x).faults with
         sticky := { Sticky.clear with
           clock := (s.port x).faults.sticky.clock && s.clock ≠ .locked }
         lastRefusal := none, condition := .running, retry := none } }) ∧
     t = { s with ports := t.ports }) ∧
   ∀ s : State, s.phase ≠ .running ∨ s.standby = true →
     exec .wakeClearPulse s = .next s.arbitrate) ∧
  ((∀ s : State, s.phase = .running → s.standby = false → ∃ t, exec .standbyEntry s = .next t ∧
     (∀ x : Port, t.port x = { s.port x with openT := none }) ∧
     t = { s with standby := true, clock := .stopped, ports := t.ports } ∧
     ∀ x : Port, t.ready x = false ∧ t.atnLow x = true) ∧
   (∀ s : State, s.phase ≠ .running ∨ s.standby = true → exec .standbyEntry s = .next s) ∧
   (∀ s : State, s.standby = true →
     exec .standbyExit s = .next { s with standby := false, clock := .locking } ∧
       (s.phase = .running → ∀ x : Port,
         { s with standby := false, clock := .locking }.ready x = !(s.port x).held)) ∧
   ∀ s : State, s.standby = false → exec .standbyExit s = .next s)

/-- PORT_RESET resets its port and holds it, stops its command in flight (a SHIFT that has read a cell
writes it first), releases its panes and turns the cursor off; the emptied engine lets the arbiter search;
PORT_RESET_RELEASE lets the port go and changes nothing else (R30, R91, R108, R191, R192). That the pending
write of a SHIFT falls in the reset's own event is the model's reading (log 13); that a port held already,
whose line is low, is not reset again is its choice (log 4). -/
def Obligations.PortResetStopsAndReleases : Prop :=
  (∀ (s : State) (x : Port), (s.port x).held = true →
    exec (.portReset x) s = .next s.arbitrate) ∧
  (∀ (s : State) (x : Port), (s.port x).held = false → ∃ t : State,
    exec (.portReset x) s = .next t.arbitrate ∧
    t.port x = { PortState.atReset with
      held := true, selLow := (s.port x).selLow, sent := (s.port x).sent
      sentBits := (s.port x).sentBits } ∧
    (∀ y, y ≠ x → t.port y = s.port y) ∧
    (∀ p : PaneId, t.pane p =
      if (s.pane p).owner = some x then
        { s.pane p with
          view := { (s.pane p).view with stale := true }, owner := none, hold := some x }
      else s.pane p) ∧
    (if s.holder = some x ∨
        (s.cursor.mode ≠ .off ∧ (s.pane s.cursor.pane).owner = some x) then
      t.cursor = { s.cursor with mode := .off } ∧ t.holder = none
    else t.cursor = s.cursor ∧ t.holder = s.holder) ∧
    ((s.flight.map Flight.port = some x → t.flight = none) ∧
      (s.flight.map Flight.port ≠ some x → t.flight = s.flight)) ∧
    (∀ (f : Flight) (col row : Nat) (rest : List Micro) (cell : Cell) (a : Nat),
      s.flight = some f → f.port = x → f.todo = .store col row :: rest → f.held = some cell →
      a = (s.pane f.pane).view.cellAddr col row → a < Config.planeSize →
      t.plane = s.plane.write a cell ∧ t.marks = s.marks.filter fun m => !m.covers a) ∧
    ((∀ f col row rest, s.flight = some f → f.port = x → f.todo = .store col row :: rest →
        f.held = none) → t.plane = s.plane ∧ t.marks = s.marks) ∧
    t = { s with
      ports := t.ports, panes := t.panes, cursor := t.cursor, holder := t.holder,
      flight := t.flight, plane := t.plane, marks := t.marks }) ∧
  ∀ (s : State) (x : Port),
    exec (.portResetRelease x) s = .next (s.setPort x { s.port x with held := false })

/-! ### Laws every step keeps -/

/-- The plane stays a list of cells at addresses it has, in canonical form. -/
def Obligations.StepKeepsThePlane : Prop :=
  ∀ s t : State, s.PlaneLaw → step s = .next t → t.PlaneLaw

/-- Every defined pane keeps a legal geometry, the command in flight stays inside its pane, and so no
step faults (R3, R22). -/
def Obligations.StepKeepsGeometryAndNeverFaults : Prop :=
  ∀ s : State, s.GeometryLaw → s.FlightLaw →
    ∃ t, step s = .next t ∧ t.GeometryLaw ∧ t.FlightLaw

/-- No two defined panes of different owners ever meet (R19). Both stacks stay orders of the sixteen
panes, the working one with the pinned panes ahead (R32). -/
def Obligations.StepKeepsRegionsAndStack : Prop :=
  (∀ s t : State, s.RegionLaw → step s = .next t → t.RegionLaw) ∧
  (∀ s t : State, s.StackLaw → step s = .next t → t.StackLaw)

/-- The mark table keeps at most 192 records, each over 1 to 16 cells of the plane and no cell under two,
in legal stages (R71, R72). -/
def Obligations.StepKeepsTheMarkTable : Prop :=
  ∀ s t : State, s.MarkLaw → s.TickLaw → s.GeometryLaw → s.FlightLaw → step s = .next t →
    t.MarkLaw ∧ t.TickLaw

/-- No two enabled slots name one code (R120), the cursor's holder owns the pane it stands in
(R140-R145), and the blink timer and both timings keep their ranges (R136, R137, R147). Frames begin again
only with a frame start, and within one picture neither a displayed copy nor the blink phase changes (R151,
R152, R166, R169); pictures are told apart by the model's count of frame starts (log 32). -/
def Obligations.StepKeepsTheSettings : Prop :=
  (∀ s t : State, s.SlotLaw → step s = .next t → t.SlotLaw) ∧
    (∀ s t : State, s.CursorLaw → step s = .next t → t.CursorLaw) ∧
    (∀ s t : State, s.TimerLaw → step s = .next t → t.TimerLaw) ∧
    ∀ s t : State, step s = .next t → s.PictureLaw t

/-- Every fault record stays in order (R194, R196, R201), a reservation stands only for the port of the
command in flight (R89), open transfers stand only on ready ports with the select line low, the clock
STOPPED exactly in standby and in RESET (R149, R175, R189; log 9), and no eligible port ever waits for an
empty engine (R91). -/
def Obligations.StepKeepsTheRecords : Prop :=
  (∀ s t : State, s.RecordLaw → step s = .next t → t.RecordLaw) ∧
    (∀ s t : State, s.ReservationLaw → step s = .next t → t.ReservationLaw) ∧
    (∀ s t : State, s.ReadyLaw → step s = .next t → t.ReadyLaw) ∧
    ∀ s t : State, s.ServedLaw → step s = .next t → t.ServedLaw

/-- No queue holds more than 128 words and no reply buffer more than 64 with its reservations (R89,
R176), and every word a port sends has an odd count of ones (R173). -/
def Obligations.StepKeepsBuffersAndParity : Prop :=
  (∀ s t : State, s.BufferLaw → step s = .next t → t.BufferLaw) ∧
    ∀ s t : State, s.OutParityLaw → step s = .next t → t.OutParityLaw
end

