-- ==== Sys2Proof/Laws/State.lean ====
section
/-! SUPPORT. What each update of the state leaves: one lemma per field per update. -/

namespace Sys2Proof.Machine

variable (s : State)

/-! ### `State.setPort` -/

@[simp] theorem State.setPort_phase (x : Port) (p : PortState) : (s.setPort x p).phase = s.phase := rfl
@[simp] theorem State.setPort_standby (x : Port) (p : PortState) : (s.setPort x p).standby = s.standby := rfl
@[simp] theorem State.setPort_clock (x : Port) (p : PortState) : (s.setPort x p).clock = s.clock := rfl
@[simp] theorem State.setPort_plane (x : Port) (p : PortState) : (s.setPort x p).plane = s.plane := rfl
@[simp] theorem State.setPort_panes (x : Port) (p : PortState) : (s.setPort x p).panes = s.panes := rfl
@[simp] theorem State.setPort_shownPanes (x : Port) (p : PortState) : (s.setPort x p).shownPanes = s.shownPanes := rfl
@[simp] theorem State.setPort_stack (x : Port) (p : PortState) : (s.setPort x p).stack = s.stack := rfl
@[simp] theorem State.setPort_shownStack (x : Port) (p : PortState) : (s.setPort x p).shownStack = s.shownStack := rfl
@[simp] theorem State.setPort_marks (x : Port) (p : PortState) : (s.setPort x p).marks = s.marks := rfl
@[simp] theorem State.setPort_ramGlyphs (x : Port) (p : PortState) : (s.setPort x p).ramGlyphs = s.ramGlyphs := rfl
@[simp] theorem State.setPort_slots (x : Port) (p : PortState) : (s.setPort x p).slots = s.slots := rfl
@[simp] theorem State.setPort_palette (x : Port) (p : PortState) : (s.setPort x p).palette = s.palette := rfl
@[simp] theorem State.setPort_shownPalette (x : Port) (p : PortState) : (s.setPort x p).shownPalette = s.shownPalette := rfl
@[simp] theorem State.setPort_ramp (x : Port) (p : PortState) : (s.setPort x p).ramp = s.ramp := rfl
@[simp] theorem State.setPort_shownRamp (x : Port) (p : PortState) : (s.setPort x p).shownRamp = s.shownRamp := rfl
@[simp] theorem State.setPort_staleColour (x : Port) (p : PortState) : (s.setPort x p).staleColour = s.staleColour := rfl
@[simp] theorem State.setPort_shownStaleColour (x : Port) (p : PortState) : (s.setPort x p).shownStaleColour = s.shownStaleColour := rfl
@[simp] theorem State.setPort_blink (x : Port) (p : PortState) : (s.setPort x p).blink = s.blink := rfl
@[simp] theorem State.setPort_cursor (x : Port) (p : PortState) : (s.setPort x p).cursor = s.cursor := rfl
@[simp] theorem State.setPort_shownCursor (x : Port) (p : PortState) : (s.setPort x p).shownCursor = s.shownCursor := rfl
@[simp] theorem State.setPort_holder (x : Port) (p : PortState) : (s.setPort x p).holder = s.holder := rfl
@[simp] theorem State.setPort_timing (x : Port) (p : PortState) : (s.setPort x p).timing = s.timing := rfl
@[simp] theorem State.setPort_shownTiming (x : Port) (p : PortState) : (s.setPort x p).shownTiming = s.shownTiming := rfl
@[simp] theorem State.setPort_timingLock (x : Port) (p : PortState) : (s.setPort x p).timingLock = s.timingLock := rfl
@[simp] theorem State.setPort_flight (x : Port) (p : PortState) : (s.setPort x p).flight = s.flight := rfl
@[simp] theorem State.setPort_grantPtr (x : Port) (p : PortState) : (s.setPort x p).grantPtr = s.grantPtr := rfl
@[simp] theorem State.setPort_frameCount (x : Port) (p : PortState) : (s.setPort x p).frameCount = s.frameCount := rfl
@[simp] theorem State.setPort_pending (x : Port) (p : PortState) : (s.setPort x p).pending = s.pending := rfl

/-! ### `State.updPort` -/

@[simp] theorem State.updPort_phase (x : Port) (f : PortState → PortState) : (s.updPort x f).phase = s.phase := rfl
@[simp] theorem State.updPort_standby (x : Port) (f : PortState → PortState) : (s.updPort x f).standby = s.standby := rfl
@[simp] theorem State.updPort_clock (x : Port) (f : PortState → PortState) : (s.updPort x f).clock = s.clock := rfl
@[simp] theorem State.updPort_plane (x : Port) (f : PortState → PortState) : (s.updPort x f).plane = s.plane := rfl
@[simp] theorem State.updPort_panes (x : Port) (f : PortState → PortState) : (s.updPort x f).panes = s.panes := rfl
@[simp] theorem State.updPort_shownPanes (x : Port) (f : PortState → PortState) : (s.updPort x f).shownPanes = s.shownPanes := rfl
@[simp] theorem State.updPort_stack (x : Port) (f : PortState → PortState) : (s.updPort x f).stack = s.stack := rfl
@[simp] theorem State.updPort_shownStack (x : Port) (f : PortState → PortState) : (s.updPort x f).shownStack = s.shownStack := rfl
@[simp] theorem State.updPort_marks (x : Port) (f : PortState → PortState) : (s.updPort x f).marks = s.marks := rfl
@[simp] theorem State.updPort_ramGlyphs (x : Port) (f : PortState → PortState) : (s.updPort x f).ramGlyphs = s.ramGlyphs := rfl
@[simp] theorem State.updPort_slots (x : Port) (f : PortState → PortState) : (s.updPort x f).slots = s.slots := rfl
@[simp] theorem State.updPort_palette (x : Port) (f : PortState → PortState) : (s.updPort x f).palette = s.palette := rfl
@[simp] theorem State.updPort_shownPalette (x : Port) (f : PortState → PortState) : (s.updPort x f).shownPalette = s.shownPalette := rfl
@[simp] theorem State.updPort_ramp (x : Port) (f : PortState → PortState) : (s.updPort x f).ramp = s.ramp := rfl
@[simp] theorem State.updPort_shownRamp (x : Port) (f : PortState → PortState) : (s.updPort x f).shownRamp = s.shownRamp := rfl
@[simp] theorem State.updPort_staleColour (x : Port) (f : PortState → PortState) : (s.updPort x f).staleColour = s.staleColour := rfl
@[simp] theorem State.updPort_shownStaleColour (x : Port) (f : PortState → PortState) : (s.updPort x f).shownStaleColour = s.shownStaleColour := rfl
@[simp] theorem State.updPort_blink (x : Port) (f : PortState → PortState) : (s.updPort x f).blink = s.blink := rfl
@[simp] theorem State.updPort_cursor (x : Port) (f : PortState → PortState) : (s.updPort x f).cursor = s.cursor := rfl
@[simp] theorem State.updPort_shownCursor (x : Port) (f : PortState → PortState) : (s.updPort x f).shownCursor = s.shownCursor := rfl
@[simp] theorem State.updPort_holder (x : Port) (f : PortState → PortState) : (s.updPort x f).holder = s.holder := rfl
@[simp] theorem State.updPort_timing (x : Port) (f : PortState → PortState) : (s.updPort x f).timing = s.timing := rfl
@[simp] theorem State.updPort_shownTiming (x : Port) (f : PortState → PortState) : (s.updPort x f).shownTiming = s.shownTiming := rfl
@[simp] theorem State.updPort_timingLock (x : Port) (f : PortState → PortState) : (s.updPort x f).timingLock = s.timingLock := rfl
@[simp] theorem State.updPort_flight (x : Port) (f : PortState → PortState) : (s.updPort x f).flight = s.flight := rfl
@[simp] theorem State.updPort_grantPtr (x : Port) (f : PortState → PortState) : (s.updPort x f).grantPtr = s.grantPtr := rfl
@[simp] theorem State.updPort_frameCount (x : Port) (f : PortState → PortState) : (s.updPort x f).frameCount = s.frameCount := rfl
@[simp] theorem State.updPort_pending (x : Port) (f : PortState → PortState) : (s.updPort x f).pending = s.pending := rfl

/-! ### `State.setPane` -/

@[simp] theorem State.setPane_phase (p : PaneId) (r : Pane) : (s.setPane p r).phase = s.phase := rfl
@[simp] theorem State.setPane_standby (p : PaneId) (r : Pane) : (s.setPane p r).standby = s.standby := rfl
@[simp] theorem State.setPane_clock (p : PaneId) (r : Pane) : (s.setPane p r).clock = s.clock := rfl
@[simp] theorem State.setPane_plane (p : PaneId) (r : Pane) : (s.setPane p r).plane = s.plane := rfl
@[simp] theorem State.setPane_shownPanes (p : PaneId) (r : Pane) : (s.setPane p r).shownPanes = s.shownPanes := rfl
@[simp] theorem State.setPane_stack (p : PaneId) (r : Pane) : (s.setPane p r).stack = s.stack := rfl
@[simp] theorem State.setPane_shownStack (p : PaneId) (r : Pane) : (s.setPane p r).shownStack = s.shownStack := rfl
@[simp] theorem State.setPane_marks (p : PaneId) (r : Pane) : (s.setPane p r).marks = s.marks := rfl
@[simp] theorem State.setPane_ramGlyphs (p : PaneId) (r : Pane) : (s.setPane p r).ramGlyphs = s.ramGlyphs := rfl
@[simp] theorem State.setPane_slots (p : PaneId) (r : Pane) : (s.setPane p r).slots = s.slots := rfl
@[simp] theorem State.setPane_palette (p : PaneId) (r : Pane) : (s.setPane p r).palette = s.palette := rfl
@[simp] theorem State.setPane_shownPalette (p : PaneId) (r : Pane) : (s.setPane p r).shownPalette = s.shownPalette := rfl
@[simp] theorem State.setPane_ramp (p : PaneId) (r : Pane) : (s.setPane p r).ramp = s.ramp := rfl
@[simp] theorem State.setPane_shownRamp (p : PaneId) (r : Pane) : (s.setPane p r).shownRamp = s.shownRamp := rfl
@[simp] theorem State.setPane_staleColour (p : PaneId) (r : Pane) : (s.setPane p r).staleColour = s.staleColour := rfl
@[simp] theorem State.setPane_shownStaleColour (p : PaneId) (r : Pane) : (s.setPane p r).shownStaleColour = s.shownStaleColour := rfl
@[simp] theorem State.setPane_blink (p : PaneId) (r : Pane) : (s.setPane p r).blink = s.blink := rfl
@[simp] theorem State.setPane_cursor (p : PaneId) (r : Pane) : (s.setPane p r).cursor = s.cursor := rfl
@[simp] theorem State.setPane_shownCursor (p : PaneId) (r : Pane) : (s.setPane p r).shownCursor = s.shownCursor := rfl
@[simp] theorem State.setPane_holder (p : PaneId) (r : Pane) : (s.setPane p r).holder = s.holder := rfl
@[simp] theorem State.setPane_timing (p : PaneId) (r : Pane) : (s.setPane p r).timing = s.timing := rfl
@[simp] theorem State.setPane_shownTiming (p : PaneId) (r : Pane) : (s.setPane p r).shownTiming = s.shownTiming := rfl
@[simp] theorem State.setPane_timingLock (p : PaneId) (r : Pane) : (s.setPane p r).timingLock = s.timingLock := rfl
@[simp] theorem State.setPane_flight (p : PaneId) (r : Pane) : (s.setPane p r).flight = s.flight := rfl
@[simp] theorem State.setPane_grantPtr (p : PaneId) (r : Pane) : (s.setPane p r).grantPtr = s.grantPtr := rfl
@[simp] theorem State.setPane_ports (p : PaneId) (r : Pane) : (s.setPane p r).ports = s.ports := rfl
@[simp] theorem State.setPane_frameCount (p : PaneId) (r : Pane) : (s.setPane p r).frameCount = s.frameCount := rfl
@[simp] theorem State.setPane_pending (p : PaneId) (r : Pane) : (s.setPane p r).pending = s.pending := rfl

/-! ### `State.setView` -/

@[simp] theorem State.setView_phase (p : PaneId) (v : PaneView) : (s.setView p v).phase = s.phase := rfl
@[simp] theorem State.setView_standby (p : PaneId) (v : PaneView) : (s.setView p v).standby = s.standby := rfl
@[simp] theorem State.setView_clock (p : PaneId) (v : PaneView) : (s.setView p v).clock = s.clock := rfl
@[simp] theorem State.setView_plane (p : PaneId) (v : PaneView) : (s.setView p v).plane = s.plane := rfl
@[simp] theorem State.setView_shownPanes (p : PaneId) (v : PaneView) : (s.setView p v).shownPanes = s.shownPanes := rfl
@[simp] theorem State.setView_stack (p : PaneId) (v : PaneView) : (s.setView p v).stack = s.stack := rfl
@[simp] theorem State.setView_shownStack (p : PaneId) (v : PaneView) : (s.setView p v).shownStack = s.shownStack := rfl
@[simp] theorem State.setView_marks (p : PaneId) (v : PaneView) : (s.setView p v).marks = s.marks := rfl
@[simp] theorem State.setView_ramGlyphs (p : PaneId) (v : PaneView) : (s.setView p v).ramGlyphs = s.ramGlyphs := rfl
@[simp] theorem State.setView_slots (p : PaneId) (v : PaneView) : (s.setView p v).slots = s.slots := rfl
@[simp] theorem State.setView_palette (p : PaneId) (v : PaneView) : (s.setView p v).palette = s.palette := rfl
@[simp] theorem State.setView_shownPalette (p : PaneId) (v : PaneView) : (s.setView p v).shownPalette = s.shownPalette := rfl
@[simp] theorem State.setView_ramp (p : PaneId) (v : PaneView) : (s.setView p v).ramp = s.ramp := rfl
@[simp] theorem State.setView_shownRamp (p : PaneId) (v : PaneView) : (s.setView p v).shownRamp = s.shownRamp := rfl
@[simp] theorem State.setView_staleColour (p : PaneId) (v : PaneView) : (s.setView p v).staleColour = s.staleColour := rfl
@[simp] theorem State.setView_shownStaleColour (p : PaneId) (v : PaneView) : (s.setView p v).shownStaleColour = s.shownStaleColour := rfl
@[simp] theorem State.setView_blink (p : PaneId) (v : PaneView) : (s.setView p v).blink = s.blink := rfl
@[simp] theorem State.setView_cursor (p : PaneId) (v : PaneView) : (s.setView p v).cursor = s.cursor := rfl
@[simp] theorem State.setView_shownCursor (p : PaneId) (v : PaneView) : (s.setView p v).shownCursor = s.shownCursor := rfl
@[simp] theorem State.setView_holder (p : PaneId) (v : PaneView) : (s.setView p v).holder = s.holder := rfl
@[simp] theorem State.setView_timing (p : PaneId) (v : PaneView) : (s.setView p v).timing = s.timing := rfl
@[simp] theorem State.setView_shownTiming (p : PaneId) (v : PaneView) : (s.setView p v).shownTiming = s.shownTiming := rfl
@[simp] theorem State.setView_timingLock (p : PaneId) (v : PaneView) : (s.setView p v).timingLock = s.timingLock := rfl
@[simp] theorem State.setView_flight (p : PaneId) (v : PaneView) : (s.setView p v).flight = s.flight := rfl
@[simp] theorem State.setView_grantPtr (p : PaneId) (v : PaneView) : (s.setView p v).grantPtr = s.grantPtr := rfl
@[simp] theorem State.setView_ports (p : PaneId) (v : PaneView) : (s.setView p v).ports = s.ports := rfl
@[simp] theorem State.setView_frameCount (p : PaneId) (v : PaneView) : (s.setView p v).frameCount = s.frameCount := rfl
@[simp] theorem State.setView_pending (p : PaneId) (v : PaneView) : (s.setView p v).pending = s.pending := rfl

/-! ### `State.writeAttr` -/

@[simp] theorem State.writeAttr_phase (a : Nat) (c : Attr) : (s.writeAttr a c).phase = s.phase := rfl
@[simp] theorem State.writeAttr_standby (a : Nat) (c : Attr) : (s.writeAttr a c).standby = s.standby := rfl
@[simp] theorem State.writeAttr_clock (a : Nat) (c : Attr) : (s.writeAttr a c).clock = s.clock := rfl
@[simp] theorem State.writeAttr_panes (a : Nat) (c : Attr) : (s.writeAttr a c).panes = s.panes := rfl
@[simp] theorem State.writeAttr_shownPanes (a : Nat) (c : Attr) : (s.writeAttr a c).shownPanes = s.shownPanes := rfl
@[simp] theorem State.writeAttr_stack (a : Nat) (c : Attr) : (s.writeAttr a c).stack = s.stack := rfl
@[simp] theorem State.writeAttr_shownStack (a : Nat) (c : Attr) : (s.writeAttr a c).shownStack = s.shownStack := rfl
@[simp] theorem State.writeAttr_marks (a : Nat) (c : Attr) : (s.writeAttr a c).marks = s.marks := rfl
@[simp] theorem State.writeAttr_ramGlyphs (a : Nat) (c : Attr) : (s.writeAttr a c).ramGlyphs = s.ramGlyphs := rfl
@[simp] theorem State.writeAttr_slots (a : Nat) (c : Attr) : (s.writeAttr a c).slots = s.slots := rfl
@[simp] theorem State.writeAttr_palette (a : Nat) (c : Attr) : (s.writeAttr a c).palette = s.palette := rfl
@[simp] theorem State.writeAttr_shownPalette (a : Nat) (c : Attr) : (s.writeAttr a c).shownPalette = s.shownPalette := rfl
@[simp] theorem State.writeAttr_ramp (a : Nat) (c : Attr) : (s.writeAttr a c).ramp = s.ramp := rfl
@[simp] theorem State.writeAttr_shownRamp (a : Nat) (c : Attr) : (s.writeAttr a c).shownRamp = s.shownRamp := rfl
@[simp] theorem State.writeAttr_staleColour (a : Nat) (c : Attr) : (s.writeAttr a c).staleColour = s.staleColour := rfl
@[simp] theorem State.writeAttr_shownStaleColour (a : Nat) (c : Attr) : (s.writeAttr a c).shownStaleColour = s.shownStaleColour := rfl
@[simp] theorem State.writeAttr_blink (a : Nat) (c : Attr) : (s.writeAttr a c).blink = s.blink := rfl
@[simp] theorem State.writeAttr_cursor (a : Nat) (c : Attr) : (s.writeAttr a c).cursor = s.cursor := rfl
@[simp] theorem State.writeAttr_shownCursor (a : Nat) (c : Attr) : (s.writeAttr a c).shownCursor = s.shownCursor := rfl
@[simp] theorem State.writeAttr_holder (a : Nat) (c : Attr) : (s.writeAttr a c).holder = s.holder := rfl
@[simp] theorem State.writeAttr_timing (a : Nat) (c : Attr) : (s.writeAttr a c).timing = s.timing := rfl
@[simp] theorem State.writeAttr_shownTiming (a : Nat) (c : Attr) : (s.writeAttr a c).shownTiming = s.shownTiming := rfl
@[simp] theorem State.writeAttr_timingLock (a : Nat) (c : Attr) : (s.writeAttr a c).timingLock = s.timingLock := rfl
@[simp] theorem State.writeAttr_flight (a : Nat) (c : Attr) : (s.writeAttr a c).flight = s.flight := rfl
@[simp] theorem State.writeAttr_grantPtr (a : Nat) (c : Attr) : (s.writeAttr a c).grantPtr = s.grantPtr := rfl
@[simp] theorem State.writeAttr_ports (a : Nat) (c : Attr) : (s.writeAttr a c).ports = s.ports := rfl
@[simp] theorem State.writeAttr_frameCount (a : Nat) (c : Attr) : (s.writeAttr a c).frameCount = s.frameCount := rfl
@[simp] theorem State.writeAttr_pending (a : Nat) (c : Attr) : (s.writeAttr a c).pending = s.pending := rfl

/-! ### `State.writeCell` -/

@[simp] theorem State.writeCell_phase (a : Nat) (c : Cell) : (s.writeCell a c).phase = s.phase := rfl
@[simp] theorem State.writeCell_standby (a : Nat) (c : Cell) : (s.writeCell a c).standby = s.standby := rfl
@[simp] theorem State.writeCell_clock (a : Nat) (c : Cell) : (s.writeCell a c).clock = s.clock := rfl
@[simp] theorem State.writeCell_panes (a : Nat) (c : Cell) : (s.writeCell a c).panes = s.panes := rfl
@[simp] theorem State.writeCell_shownPanes (a : Nat) (c : Cell) : (s.writeCell a c).shownPanes = s.shownPanes := rfl
@[simp] theorem State.writeCell_stack (a : Nat) (c : Cell) : (s.writeCell a c).stack = s.stack := rfl
@[simp] theorem State.writeCell_shownStack (a : Nat) (c : Cell) : (s.writeCell a c).shownStack = s.shownStack := rfl
@[simp] theorem State.writeCell_ramGlyphs (a : Nat) (c : Cell) : (s.writeCell a c).ramGlyphs = s.ramGlyphs := rfl
@[simp] theorem State.writeCell_slots (a : Nat) (c : Cell) : (s.writeCell a c).slots = s.slots := rfl
@[simp] theorem State.writeCell_palette (a : Nat) (c : Cell) : (s.writeCell a c).palette = s.palette := rfl
@[simp] theorem State.writeCell_shownPalette (a : Nat) (c : Cell) : (s.writeCell a c).shownPalette = s.shownPalette := rfl
@[simp] theorem State.writeCell_ramp (a : Nat) (c : Cell) : (s.writeCell a c).ramp = s.ramp := rfl
@[simp] theorem State.writeCell_shownRamp (a : Nat) (c : Cell) : (s.writeCell a c).shownRamp = s.shownRamp := rfl
@[simp] theorem State.writeCell_staleColour (a : Nat) (c : Cell) : (s.writeCell a c).staleColour = s.staleColour := rfl
@[simp] theorem State.writeCell_shownStaleColour (a : Nat) (c : Cell) : (s.writeCell a c).shownStaleColour = s.shownStaleColour := rfl
@[simp] theorem State.writeCell_blink (a : Nat) (c : Cell) : (s.writeCell a c).blink = s.blink := rfl
@[simp] theorem State.writeCell_cursor (a : Nat) (c : Cell) : (s.writeCell a c).cursor = s.cursor := rfl
@[simp] theorem State.writeCell_shownCursor (a : Nat) (c : Cell) : (s.writeCell a c).shownCursor = s.shownCursor := rfl
@[simp] theorem State.writeCell_holder (a : Nat) (c : Cell) : (s.writeCell a c).holder = s.holder := rfl
@[simp] theorem State.writeCell_timing (a : Nat) (c : Cell) : (s.writeCell a c).timing = s.timing := rfl
@[simp] theorem State.writeCell_shownTiming (a : Nat) (c : Cell) : (s.writeCell a c).shownTiming = s.shownTiming := rfl
@[simp] theorem State.writeCell_timingLock (a : Nat) (c : Cell) : (s.writeCell a c).timingLock = s.timingLock := rfl
@[simp] theorem State.writeCell_flight (a : Nat) (c : Cell) : (s.writeCell a c).flight = s.flight := rfl
@[simp] theorem State.writeCell_grantPtr (a : Nat) (c : Cell) : (s.writeCell a c).grantPtr = s.grantPtr := rfl
@[simp] theorem State.writeCell_ports (a : Nat) (c : Cell) : (s.writeCell a c).ports = s.ports := rfl
@[simp] theorem State.writeCell_frameCount (a : Nat) (c : Cell) : (s.writeCell a c).frameCount = s.frameCount := rfl
@[simp] theorem State.writeCell_pending (a : Nat) (c : Cell) : (s.writeCell a c).pending = s.pending := rfl

/-! ### `State.writeFieldCode` -/

@[simp] theorem State.writeFieldCode_phase (a : Nat) (k : Code) : (s.writeFieldCode a k).phase = s.phase := rfl
@[simp] theorem State.writeFieldCode_standby (a : Nat) (k : Code) : (s.writeFieldCode a k).standby = s.standby := rfl
@[simp] theorem State.writeFieldCode_clock (a : Nat) (k : Code) : (s.writeFieldCode a k).clock = s.clock := rfl
@[simp] theorem State.writeFieldCode_panes (a : Nat) (k : Code) : (s.writeFieldCode a k).panes = s.panes := rfl
@[simp] theorem State.writeFieldCode_shownPanes (a : Nat) (k : Code) : (s.writeFieldCode a k).shownPanes = s.shownPanes := rfl
@[simp] theorem State.writeFieldCode_stack (a : Nat) (k : Code) : (s.writeFieldCode a k).stack = s.stack := rfl
@[simp] theorem State.writeFieldCode_shownStack (a : Nat) (k : Code) : (s.writeFieldCode a k).shownStack = s.shownStack := rfl
@[simp] theorem State.writeFieldCode_marks (a : Nat) (k : Code) : (s.writeFieldCode a k).marks = s.marks := rfl
@[simp] theorem State.writeFieldCode_ramGlyphs (a : Nat) (k : Code) : (s.writeFieldCode a k).ramGlyphs = s.ramGlyphs := rfl
@[simp] theorem State.writeFieldCode_slots (a : Nat) (k : Code) : (s.writeFieldCode a k).slots = s.slots := rfl
@[simp] theorem State.writeFieldCode_palette (a : Nat) (k : Code) : (s.writeFieldCode a k).palette = s.palette := rfl
@[simp] theorem State.writeFieldCode_shownPalette (a : Nat) (k : Code) : (s.writeFieldCode a k).shownPalette = s.shownPalette := rfl
@[simp] theorem State.writeFieldCode_ramp (a : Nat) (k : Code) : (s.writeFieldCode a k).ramp = s.ramp := rfl
@[simp] theorem State.writeFieldCode_shownRamp (a : Nat) (k : Code) : (s.writeFieldCode a k).shownRamp = s.shownRamp := rfl
@[simp] theorem State.writeFieldCode_staleColour (a : Nat) (k : Code) : (s.writeFieldCode a k).staleColour = s.staleColour := rfl
@[simp] theorem State.writeFieldCode_shownStaleColour (a : Nat) (k : Code) : (s.writeFieldCode a k).shownStaleColour = s.shownStaleColour := rfl
@[simp] theorem State.writeFieldCode_blink (a : Nat) (k : Code) : (s.writeFieldCode a k).blink = s.blink := rfl
@[simp] theorem State.writeFieldCode_cursor (a : Nat) (k : Code) : (s.writeFieldCode a k).cursor = s.cursor := rfl
@[simp] theorem State.writeFieldCode_shownCursor (a : Nat) (k : Code) : (s.writeFieldCode a k).shownCursor = s.shownCursor := rfl
@[simp] theorem State.writeFieldCode_holder (a : Nat) (k : Code) : (s.writeFieldCode a k).holder = s.holder := rfl
@[simp] theorem State.writeFieldCode_timing (a : Nat) (k : Code) : (s.writeFieldCode a k).timing = s.timing := rfl
@[simp] theorem State.writeFieldCode_shownTiming (a : Nat) (k : Code) : (s.writeFieldCode a k).shownTiming = s.shownTiming := rfl
@[simp] theorem State.writeFieldCode_timingLock (a : Nat) (k : Code) : (s.writeFieldCode a k).timingLock = s.timingLock := rfl
@[simp] theorem State.writeFieldCode_flight (a : Nat) (k : Code) : (s.writeFieldCode a k).flight = s.flight := rfl
@[simp] theorem State.writeFieldCode_grantPtr (a : Nat) (k : Code) : (s.writeFieldCode a k).grantPtr = s.grantPtr := rfl
@[simp] theorem State.writeFieldCode_ports (a : Nat) (k : Code) : (s.writeFieldCode a k).ports = s.ports := rfl
@[simp] theorem State.writeFieldCode_frameCount (a : Nat) (k : Code) : (s.writeFieldCode a k).frameCount = s.frameCount := rfl
@[simp] theorem State.writeFieldCode_pending (a : Nat) (k : Code) : (s.writeFieldCode a k).pending = s.pending := rfl

/-! ### `State.refuse` -/

@[simp] theorem State.refuse_phase (x : Port) (code : RefusalCode) : (s.refuse x code).phase = s.phase := rfl
@[simp] theorem State.refuse_standby (x : Port) (code : RefusalCode) : (s.refuse x code).standby = s.standby := rfl
@[simp] theorem State.refuse_clock (x : Port) (code : RefusalCode) : (s.refuse x code).clock = s.clock := rfl
@[simp] theorem State.refuse_plane (x : Port) (code : RefusalCode) : (s.refuse x code).plane = s.plane := rfl
@[simp] theorem State.refuse_panes (x : Port) (code : RefusalCode) : (s.refuse x code).panes = s.panes := rfl
@[simp] theorem State.refuse_shownPanes (x : Port) (code : RefusalCode) : (s.refuse x code).shownPanes = s.shownPanes := rfl
@[simp] theorem State.refuse_stack (x : Port) (code : RefusalCode) : (s.refuse x code).stack = s.stack := rfl
@[simp] theorem State.refuse_shownStack (x : Port) (code : RefusalCode) : (s.refuse x code).shownStack = s.shownStack := rfl
@[simp] theorem State.refuse_marks (x : Port) (code : RefusalCode) : (s.refuse x code).marks = s.marks := rfl
@[simp] theorem State.refuse_ramGlyphs (x : Port) (code : RefusalCode) : (s.refuse x code).ramGlyphs = s.ramGlyphs := rfl
@[simp] theorem State.refuse_slots (x : Port) (code : RefusalCode) : (s.refuse x code).slots = s.slots := rfl
@[simp] theorem State.refuse_palette (x : Port) (code : RefusalCode) : (s.refuse x code).palette = s.palette := rfl
@[simp] theorem State.refuse_shownPalette (x : Port) (code : RefusalCode) : (s.refuse x code).shownPalette = s.shownPalette := rfl
@[simp] theorem State.refuse_ramp (x : Port) (code : RefusalCode) : (s.refuse x code).ramp = s.ramp := rfl
@[simp] theorem State.refuse_shownRamp (x : Port) (code : RefusalCode) : (s.refuse x code).shownRamp = s.shownRamp := rfl
@[simp] theorem State.refuse_staleColour (x : Port) (code : RefusalCode) : (s.refuse x code).staleColour = s.staleColour := rfl
@[simp] theorem State.refuse_shownStaleColour (x : Port) (code : RefusalCode) : (s.refuse x code).shownStaleColour = s.shownStaleColour := rfl
@[simp] theorem State.refuse_blink (x : Port) (code : RefusalCode) : (s.refuse x code).blink = s.blink := rfl
@[simp] theorem State.refuse_cursor (x : Port) (code : RefusalCode) : (s.refuse x code).cursor = s.cursor := rfl
@[simp] theorem State.refuse_shownCursor (x : Port) (code : RefusalCode) : (s.refuse x code).shownCursor = s.shownCursor := rfl
@[simp] theorem State.refuse_holder (x : Port) (code : RefusalCode) : (s.refuse x code).holder = s.holder := rfl
@[simp] theorem State.refuse_timing (x : Port) (code : RefusalCode) : (s.refuse x code).timing = s.timing := rfl
@[simp] theorem State.refuse_shownTiming (x : Port) (code : RefusalCode) : (s.refuse x code).shownTiming = s.shownTiming := rfl
@[simp] theorem State.refuse_timingLock (x : Port) (code : RefusalCode) : (s.refuse x code).timingLock = s.timingLock := rfl
@[simp] theorem State.refuse_flight (x : Port) (code : RefusalCode) : (s.refuse x code).flight = s.flight := rfl
@[simp] theorem State.refuse_grantPtr (x : Port) (code : RefusalCode) : (s.refuse x code).grantPtr = s.grantPtr := rfl
@[simp] theorem State.refuse_frameCount (x : Port) (code : RefusalCode) : (s.refuse x code).frameCount = s.frameCount := rfl
@[simp] theorem State.refuse_pending (x : Port) (code : RefusalCode) : (s.refuse x code).pending = s.pending := rfl

/-! ### `State.complete` -/

@[simp] theorem State.complete_phase (x : Port) : (s.complete x).phase = s.phase := rfl
@[simp] theorem State.complete_standby (x : Port) : (s.complete x).standby = s.standby := rfl
@[simp] theorem State.complete_clock (x : Port) : (s.complete x).clock = s.clock := rfl
@[simp] theorem State.complete_plane (x : Port) : (s.complete x).plane = s.plane := rfl
@[simp] theorem State.complete_panes (x : Port) : (s.complete x).panes = s.panes := rfl
@[simp] theorem State.complete_shownPanes (x : Port) : (s.complete x).shownPanes = s.shownPanes := rfl
@[simp] theorem State.complete_stack (x : Port) : (s.complete x).stack = s.stack := rfl
@[simp] theorem State.complete_shownStack (x : Port) : (s.complete x).shownStack = s.shownStack := rfl
@[simp] theorem State.complete_marks (x : Port) : (s.complete x).marks = s.marks := rfl
@[simp] theorem State.complete_ramGlyphs (x : Port) : (s.complete x).ramGlyphs = s.ramGlyphs := rfl
@[simp] theorem State.complete_slots (x : Port) : (s.complete x).slots = s.slots := rfl
@[simp] theorem State.complete_palette (x : Port) : (s.complete x).palette = s.palette := rfl
@[simp] theorem State.complete_shownPalette (x : Port) : (s.complete x).shownPalette = s.shownPalette := rfl
@[simp] theorem State.complete_ramp (x : Port) : (s.complete x).ramp = s.ramp := rfl
@[simp] theorem State.complete_shownRamp (x : Port) : (s.complete x).shownRamp = s.shownRamp := rfl
@[simp] theorem State.complete_staleColour (x : Port) : (s.complete x).staleColour = s.staleColour := rfl
@[simp] theorem State.complete_shownStaleColour (x : Port) : (s.complete x).shownStaleColour = s.shownStaleColour := rfl
@[simp] theorem State.complete_blink (x : Port) : (s.complete x).blink = s.blink := rfl
@[simp] theorem State.complete_cursor (x : Port) : (s.complete x).cursor = s.cursor := rfl
@[simp] theorem State.complete_shownCursor (x : Port) : (s.complete x).shownCursor = s.shownCursor := rfl
@[simp] theorem State.complete_holder (x : Port) : (s.complete x).holder = s.holder := rfl
@[simp] theorem State.complete_timing (x : Port) : (s.complete x).timing = s.timing := rfl
@[simp] theorem State.complete_shownTiming (x : Port) : (s.complete x).shownTiming = s.shownTiming := rfl
@[simp] theorem State.complete_timingLock (x : Port) : (s.complete x).timingLock = s.timingLock := rfl
@[simp] theorem State.complete_grantPtr (x : Port) : (s.complete x).grantPtr = s.grantPtr := rfl
@[simp] theorem State.complete_frameCount (x : Port) : (s.complete x).frameCount = s.frameCount := rfl
@[simp] theorem State.complete_pending (x : Port) : (s.complete x).pending = s.pending := rfl

/-! ### `State.cursorOff` -/

@[simp] theorem State.cursorOff_phase : (s.cursorOff).phase = s.phase := rfl
@[simp] theorem State.cursorOff_standby : (s.cursorOff).standby = s.standby := rfl
@[simp] theorem State.cursorOff_clock : (s.cursorOff).clock = s.clock := rfl
@[simp] theorem State.cursorOff_plane : (s.cursorOff).plane = s.plane := rfl
@[simp] theorem State.cursorOff_panes : (s.cursorOff).panes = s.panes := rfl
@[simp] theorem State.cursorOff_shownPanes : (s.cursorOff).shownPanes = s.shownPanes := rfl
@[simp] theorem State.cursorOff_stack : (s.cursorOff).stack = s.stack := rfl
@[simp] theorem State.cursorOff_shownStack : (s.cursorOff).shownStack = s.shownStack := rfl
@[simp] theorem State.cursorOff_marks : (s.cursorOff).marks = s.marks := rfl
@[simp] theorem State.cursorOff_ramGlyphs : (s.cursorOff).ramGlyphs = s.ramGlyphs := rfl
@[simp] theorem State.cursorOff_slots : (s.cursorOff).slots = s.slots := rfl
@[simp] theorem State.cursorOff_palette : (s.cursorOff).palette = s.palette := rfl
@[simp] theorem State.cursorOff_shownPalette : (s.cursorOff).shownPalette = s.shownPalette := rfl
@[simp] theorem State.cursorOff_ramp : (s.cursorOff).ramp = s.ramp := rfl
@[simp] theorem State.cursorOff_shownRamp : (s.cursorOff).shownRamp = s.shownRamp := rfl
@[simp] theorem State.cursorOff_staleColour : (s.cursorOff).staleColour = s.staleColour := rfl
@[simp] theorem State.cursorOff_shownStaleColour : (s.cursorOff).shownStaleColour = s.shownStaleColour := rfl
@[simp] theorem State.cursorOff_blink : (s.cursorOff).blink = s.blink := rfl
@[simp] theorem State.cursorOff_shownCursor : (s.cursorOff).shownCursor = s.shownCursor := rfl
@[simp] theorem State.cursorOff_timing : (s.cursorOff).timing = s.timing := rfl
@[simp] theorem State.cursorOff_shownTiming : (s.cursorOff).shownTiming = s.shownTiming := rfl
@[simp] theorem State.cursorOff_timingLock : (s.cursorOff).timingLock = s.timingLock := rfl
@[simp] theorem State.cursorOff_flight : (s.cursorOff).flight = s.flight := rfl
@[simp] theorem State.cursorOff_grantPtr : (s.cursorOff).grantPtr = s.grantPtr := rfl
@[simp] theorem State.cursorOff_ports : (s.cursorOff).ports = s.ports := rfl
@[simp] theorem State.cursorOff_frameCount : (s.cursorOff).frameCount = s.frameCount := rfl
@[simp] theorem State.cursorOff_pending : (s.cursorOff).pending = s.pending := rfl

/-! ### `State.countFrame` -/

@[simp] theorem State.countFrame_phase : (s.countFrame).phase = s.phase := rfl
@[simp] theorem State.countFrame_standby : (s.countFrame).standby = s.standby := rfl
@[simp] theorem State.countFrame_clock : (s.countFrame).clock = s.clock := rfl
@[simp] theorem State.countFrame_plane : (s.countFrame).plane = s.plane := rfl
@[simp] theorem State.countFrame_panes : (s.countFrame).panes = s.panes := rfl
@[simp] theorem State.countFrame_shownPanes : (s.countFrame).shownPanes = s.shownPanes := rfl
@[simp] theorem State.countFrame_stack : (s.countFrame).stack = s.stack := rfl
@[simp] theorem State.countFrame_shownStack : (s.countFrame).shownStack = s.shownStack := rfl
@[simp] theorem State.countFrame_marks : (s.countFrame).marks = s.marks := rfl
@[simp] theorem State.countFrame_ramGlyphs : (s.countFrame).ramGlyphs = s.ramGlyphs := rfl
@[simp] theorem State.countFrame_slots : (s.countFrame).slots = s.slots := rfl
@[simp] theorem State.countFrame_palette : (s.countFrame).palette = s.palette := rfl
@[simp] theorem State.countFrame_shownPalette : (s.countFrame).shownPalette = s.shownPalette := rfl
@[simp] theorem State.countFrame_ramp : (s.countFrame).ramp = s.ramp := rfl
@[simp] theorem State.countFrame_shownRamp : (s.countFrame).shownRamp = s.shownRamp := rfl
@[simp] theorem State.countFrame_staleColour : (s.countFrame).staleColour = s.staleColour := rfl
@[simp] theorem State.countFrame_shownStaleColour : (s.countFrame).shownStaleColour = s.shownStaleColour := rfl
@[simp] theorem State.countFrame_blink : (s.countFrame).blink = s.blink := rfl
@[simp] theorem State.countFrame_cursor : (s.countFrame).cursor = s.cursor := rfl
@[simp] theorem State.countFrame_shownCursor : (s.countFrame).shownCursor = s.shownCursor := rfl
@[simp] theorem State.countFrame_holder : (s.countFrame).holder = s.holder := rfl
@[simp] theorem State.countFrame_timing : (s.countFrame).timing = s.timing := rfl
@[simp] theorem State.countFrame_shownTiming : (s.countFrame).shownTiming = s.shownTiming := rfl
@[simp] theorem State.countFrame_timingLock : (s.countFrame).timingLock = s.timingLock := rfl
@[simp] theorem State.countFrame_flight : (s.countFrame).flight = s.flight := rfl
@[simp] theorem State.countFrame_grantPtr : (s.countFrame).grantPtr = s.grantPtr := rfl
@[simp] theorem State.countFrame_ports : (s.countFrame).ports = s.ports := rfl
@[simp] theorem State.countFrame_pending : (s.countFrame).pending = s.pending := rfl

/-! ### `State.toDo` -/

@[simp] theorem State.toDo_phase (todo : List Micro) : (s.toDo todo).phase = s.phase := rfl
@[simp] theorem State.toDo_standby (todo : List Micro) : (s.toDo todo).standby = s.standby := rfl
@[simp] theorem State.toDo_clock (todo : List Micro) : (s.toDo todo).clock = s.clock := rfl
@[simp] theorem State.toDo_plane (todo : List Micro) : (s.toDo todo).plane = s.plane := rfl
@[simp] theorem State.toDo_panes (todo : List Micro) : (s.toDo todo).panes = s.panes := rfl
@[simp] theorem State.toDo_shownPanes (todo : List Micro) : (s.toDo todo).shownPanes = s.shownPanes := rfl
@[simp] theorem State.toDo_stack (todo : List Micro) : (s.toDo todo).stack = s.stack := rfl
@[simp] theorem State.toDo_shownStack (todo : List Micro) : (s.toDo todo).shownStack = s.shownStack := rfl
@[simp] theorem State.toDo_marks (todo : List Micro) : (s.toDo todo).marks = s.marks := rfl
@[simp] theorem State.toDo_ramGlyphs (todo : List Micro) : (s.toDo todo).ramGlyphs = s.ramGlyphs := rfl
@[simp] theorem State.toDo_slots (todo : List Micro) : (s.toDo todo).slots = s.slots := rfl
@[simp] theorem State.toDo_palette (todo : List Micro) : (s.toDo todo).palette = s.palette := rfl
@[simp] theorem State.toDo_shownPalette (todo : List Micro) : (s.toDo todo).shownPalette = s.shownPalette := rfl
@[simp] theorem State.toDo_ramp (todo : List Micro) : (s.toDo todo).ramp = s.ramp := rfl
@[simp] theorem State.toDo_shownRamp (todo : List Micro) : (s.toDo todo).shownRamp = s.shownRamp := rfl
@[simp] theorem State.toDo_staleColour (todo : List Micro) : (s.toDo todo).staleColour = s.staleColour := rfl
@[simp] theorem State.toDo_shownStaleColour (todo : List Micro) : (s.toDo todo).shownStaleColour = s.shownStaleColour := rfl
@[simp] theorem State.toDo_blink (todo : List Micro) : (s.toDo todo).blink = s.blink := rfl
@[simp] theorem State.toDo_cursor (todo : List Micro) : (s.toDo todo).cursor = s.cursor := rfl
@[simp] theorem State.toDo_shownCursor (todo : List Micro) : (s.toDo todo).shownCursor = s.shownCursor := rfl
@[simp] theorem State.toDo_holder (todo : List Micro) : (s.toDo todo).holder = s.holder := rfl
@[simp] theorem State.toDo_timing (todo : List Micro) : (s.toDo todo).timing = s.timing := rfl
@[simp] theorem State.toDo_shownTiming (todo : List Micro) : (s.toDo todo).shownTiming = s.shownTiming := rfl
@[simp] theorem State.toDo_timingLock (todo : List Micro) : (s.toDo todo).timingLock = s.timingLock := rfl
@[simp] theorem State.toDo_grantPtr (todo : List Micro) : (s.toDo todo).grantPtr = s.grantPtr := rfl
@[simp] theorem State.toDo_ports (todo : List Micro) : (s.toDo todo).ports = s.ports := rfl
@[simp] theorem State.toDo_frameCount (todo : List Micro) : (s.toDo todo).frameCount = s.frameCount := rfl
@[simp] theorem State.toDo_pending (todo : List Micro) : (s.toDo todo).pending = s.pending := rfl

/-! ### `State.refusing` -/

@[simp] theorem State.refusing_phase (code : RefusalCode) : (s.refusing code).phase = s.phase := rfl
@[simp] theorem State.refusing_standby (code : RefusalCode) : (s.refusing code).standby = s.standby := rfl
@[simp] theorem State.refusing_clock (code : RefusalCode) : (s.refusing code).clock = s.clock := rfl
@[simp] theorem State.refusing_plane (code : RefusalCode) : (s.refusing code).plane = s.plane := rfl
@[simp] theorem State.refusing_panes (code : RefusalCode) : (s.refusing code).panes = s.panes := rfl
@[simp] theorem State.refusing_shownPanes (code : RefusalCode) : (s.refusing code).shownPanes = s.shownPanes := rfl
@[simp] theorem State.refusing_stack (code : RefusalCode) : (s.refusing code).stack = s.stack := rfl
@[simp] theorem State.refusing_shownStack (code : RefusalCode) : (s.refusing code).shownStack = s.shownStack := rfl
@[simp] theorem State.refusing_marks (code : RefusalCode) : (s.refusing code).marks = s.marks := rfl
@[simp] theorem State.refusing_ramGlyphs (code : RefusalCode) : (s.refusing code).ramGlyphs = s.ramGlyphs := rfl
@[simp] theorem State.refusing_slots (code : RefusalCode) : (s.refusing code).slots = s.slots := rfl
@[simp] theorem State.refusing_palette (code : RefusalCode) : (s.refusing code).palette = s.palette := rfl
@[simp] theorem State.refusing_shownPalette (code : RefusalCode) : (s.refusing code).shownPalette = s.shownPalette := rfl
@[simp] theorem State.refusing_ramp (code : RefusalCode) : (s.refusing code).ramp = s.ramp := rfl
@[simp] theorem State.refusing_shownRamp (code : RefusalCode) : (s.refusing code).shownRamp = s.shownRamp := rfl
@[simp] theorem State.refusing_staleColour (code : RefusalCode) : (s.refusing code).staleColour = s.staleColour := rfl
@[simp] theorem State.refusing_shownStaleColour (code : RefusalCode) : (s.refusing code).shownStaleColour = s.shownStaleColour := rfl
@[simp] theorem State.refusing_blink (code : RefusalCode) : (s.refusing code).blink = s.blink := rfl
@[simp] theorem State.refusing_cursor (code : RefusalCode) : (s.refusing code).cursor = s.cursor := rfl
@[simp] theorem State.refusing_shownCursor (code : RefusalCode) : (s.refusing code).shownCursor = s.shownCursor := rfl
@[simp] theorem State.refusing_holder (code : RefusalCode) : (s.refusing code).holder = s.holder := rfl
@[simp] theorem State.refusing_timing (code : RefusalCode) : (s.refusing code).timing = s.timing := rfl
@[simp] theorem State.refusing_shownTiming (code : RefusalCode) : (s.refusing code).shownTiming = s.shownTiming := rfl
@[simp] theorem State.refusing_timingLock (code : RefusalCode) : (s.refusing code).timingLock = s.timingLock := rfl
@[simp] theorem State.refusing_grantPtr (code : RefusalCode) : (s.refusing code).grantPtr = s.grantPtr := rfl
@[simp] theorem State.refusing_ports (code : RefusalCode) : (s.refusing code).ports = s.ports := rfl
@[simp] theorem State.refusing_frameCount (code : RefusalCode) : (s.refusing code).frameCount = s.frameCount := rfl
@[simp] theorem State.refusing_pending (code : RefusalCode) : (s.refusing code).pending = s.pending := rfl

/-! ### `State.granted` -/

@[simp] theorem State.granted_phase (x : Port) (w : List Word) (rest : List (List Word)) (c : Command) : (s.granted x w rest c).phase = s.phase := rfl
@[simp] theorem State.granted_standby (x : Port) (w : List Word) (rest : List (List Word)) (c : Command) : (s.granted x w rest c).standby = s.standby := rfl
@[simp] theorem State.granted_clock (x : Port) (w : List Word) (rest : List (List Word)) (c : Command) : (s.granted x w rest c).clock = s.clock := rfl
@[simp] theorem State.granted_plane (x : Port) (w : List Word) (rest : List (List Word)) (c : Command) : (s.granted x w rest c).plane = s.plane := rfl
@[simp] theorem State.granted_panes (x : Port) (w : List Word) (rest : List (List Word)) (c : Command) : (s.granted x w rest c).panes = s.panes := rfl
@[simp] theorem State.granted_shownPanes (x : Port) (w : List Word) (rest : List (List Word)) (c : Command) : (s.granted x w rest c).shownPanes = s.shownPanes := rfl
@[simp] theorem State.granted_stack (x : Port) (w : List Word) (rest : List (List Word)) (c : Command) : (s.granted x w rest c).stack = s.stack := rfl
@[simp] theorem State.granted_shownStack (x : Port) (w : List Word) (rest : List (List Word)) (c : Command) : (s.granted x w rest c).shownStack = s.shownStack := rfl
@[simp] theorem State.granted_marks (x : Port) (w : List Word) (rest : List (List Word)) (c : Command) : (s.granted x w rest c).marks = s.marks := rfl
@[simp] theorem State.granted_ramGlyphs (x : Port) (w : List Word) (rest : List (List Word)) (c : Command) : (s.granted x w rest c).ramGlyphs = s.ramGlyphs := rfl
@[simp] theorem State.granted_slots (x : Port) (w : List Word) (rest : List (List Word)) (c : Command) : (s.granted x w rest c).slots = s.slots := rfl
@[simp] theorem State.granted_palette (x : Port) (w : List Word) (rest : List (List Word)) (c : Command) : (s.granted x w rest c).palette = s.palette := rfl
@[simp] theorem State.granted_shownPalette (x : Port) (w : List Word) (rest : List (List Word)) (c : Command) : (s.granted x w rest c).shownPalette = s.shownPalette := rfl
@[simp] theorem State.granted_ramp (x : Port) (w : List Word) (rest : List (List Word)) (c : Command) : (s.granted x w rest c).ramp = s.ramp := rfl
@[simp] theorem State.granted_shownRamp (x : Port) (w : List Word) (rest : List (List Word)) (c : Command) : (s.granted x w rest c).shownRamp = s.shownRamp := rfl
@[simp] theorem State.granted_staleColour (x : Port) (w : List Word) (rest : List (List Word)) (c : Command) : (s.granted x w rest c).staleColour = s.staleColour := rfl
@[simp] theorem State.granted_shownStaleColour (x : Port) (w : List Word) (rest : List (List Word)) (c : Command) : (s.granted x w rest c).shownStaleColour = s.shownStaleColour := rfl
@[simp] theorem State.granted_blink (x : Port) (w : List Word) (rest : List (List Word)) (c : Command) : (s.granted x w rest c).blink = s.blink := rfl
@[simp] theorem State.granted_cursor (x : Port) (w : List Word) (rest : List (List Word)) (c : Command) : (s.granted x w rest c).cursor = s.cursor := rfl
@[simp] theorem State.granted_shownCursor (x : Port) (w : List Word) (rest : List (List Word)) (c : Command) : (s.granted x w rest c).shownCursor = s.shownCursor := rfl
@[simp] theorem State.granted_holder (x : Port) (w : List Word) (rest : List (List Word)) (c : Command) : (s.granted x w rest c).holder = s.holder := rfl
@[simp] theorem State.granted_timing (x : Port) (w : List Word) (rest : List (List Word)) (c : Command) : (s.granted x w rest c).timing = s.timing := rfl
@[simp] theorem State.granted_shownTiming (x : Port) (w : List Word) (rest : List (List Word)) (c : Command) : (s.granted x w rest c).shownTiming = s.shownTiming := rfl
@[simp] theorem State.granted_timingLock (x : Port) (w : List Word) (rest : List (List Word)) (c : Command) : (s.granted x w rest c).timingLock = s.timingLock := rfl
@[simp] theorem State.granted_frameCount (x : Port) (w : List Word) (rest : List (List Word)) (c : Command) : (s.granted x w rest c).frameCount = s.frameCount := rfl
@[simp] theorem State.granted_pending (x : Port) (w : List Word) (rest : List (List Word)) (c : Command) : (s.granted x w rest c).pending = s.pending := rfl

/-! ### `State.delivered` -/

@[simp] theorem State.delivered_phase (x : Port) (c : Command) : (s.delivered x c).phase = s.phase := rfl
@[simp] theorem State.delivered_standby (x : Port) (c : Command) : (s.delivered x c).standby = s.standby := rfl
@[simp] theorem State.delivered_clock (x : Port) (c : Command) : (s.delivered x c).clock = s.clock := rfl
@[simp] theorem State.delivered_plane (x : Port) (c : Command) : (s.delivered x c).plane = s.plane := rfl
@[simp] theorem State.delivered_panes (x : Port) (c : Command) : (s.delivered x c).panes = s.panes := rfl
@[simp] theorem State.delivered_shownPanes (x : Port) (c : Command) : (s.delivered x c).shownPanes = s.shownPanes := rfl
@[simp] theorem State.delivered_stack (x : Port) (c : Command) : (s.delivered x c).stack = s.stack := rfl
@[simp] theorem State.delivered_shownStack (x : Port) (c : Command) : (s.delivered x c).shownStack = s.shownStack := rfl
@[simp] theorem State.delivered_marks (x : Port) (c : Command) : (s.delivered x c).marks = s.marks := rfl
@[simp] theorem State.delivered_ramGlyphs (x : Port) (c : Command) : (s.delivered x c).ramGlyphs = s.ramGlyphs := rfl
@[simp] theorem State.delivered_slots (x : Port) (c : Command) : (s.delivered x c).slots = s.slots := rfl
@[simp] theorem State.delivered_palette (x : Port) (c : Command) : (s.delivered x c).palette = s.palette := rfl
@[simp] theorem State.delivered_shownPalette (x : Port) (c : Command) : (s.delivered x c).shownPalette = s.shownPalette := rfl
@[simp] theorem State.delivered_ramp (x : Port) (c : Command) : (s.delivered x c).ramp = s.ramp := rfl
@[simp] theorem State.delivered_shownRamp (x : Port) (c : Command) : (s.delivered x c).shownRamp = s.shownRamp := rfl
@[simp] theorem State.delivered_staleColour (x : Port) (c : Command) : (s.delivered x c).staleColour = s.staleColour := rfl
@[simp] theorem State.delivered_shownStaleColour (x : Port) (c : Command) : (s.delivered x c).shownStaleColour = s.shownStaleColour := rfl
@[simp] theorem State.delivered_blink (x : Port) (c : Command) : (s.delivered x c).blink = s.blink := rfl
@[simp] theorem State.delivered_cursor (x : Port) (c : Command) : (s.delivered x c).cursor = s.cursor := rfl
@[simp] theorem State.delivered_shownCursor (x : Port) (c : Command) : (s.delivered x c).shownCursor = s.shownCursor := rfl
@[simp] theorem State.delivered_holder (x : Port) (c : Command) : (s.delivered x c).holder = s.holder := rfl
@[simp] theorem State.delivered_timing (x : Port) (c : Command) : (s.delivered x c).timing = s.timing := rfl
@[simp] theorem State.delivered_shownTiming (x : Port) (c : Command) : (s.delivered x c).shownTiming = s.shownTiming := rfl
@[simp] theorem State.delivered_timingLock (x : Port) (c : Command) : (s.delivered x c).timingLock = s.timingLock := rfl
@[simp] theorem State.delivered_flight (x : Port) (c : Command) : (s.delivered x c).flight = s.flight := rfl
@[simp] theorem State.delivered_frameCount (x : Port) (c : Command) : (s.delivered x c).frameCount = s.frameCount := rfl
@[simp] theorem State.delivered_pending (x : Port) (c : Command) : (s.delivered x c).pending = s.pending := rfl

/-! ### The fields the updates change -/

@[simp] theorem State.setPort_ports (x : Port) (p : PortState) :
    (s.setPort x p).ports = s.ports.set x p := rfl
@[simp] theorem State.updPort_ports (x : Port) (f : PortState → PortState) :
    (s.updPort x f).ports = s.ports.set x (f (s.port x)) := rfl
@[simp] theorem State.writeCell_plane (a : Nat) (c : Cell) :
    (s.writeCell a c).plane = s.plane.write a c := rfl
@[simp] theorem State.writeCell_marks (a : Nat) (c : Cell) :
    (s.writeCell a c).marks = s.marks.filter fun m => !m.covers a := rfl
@[simp] theorem State.writeAttr_plane (a : Nat) (c : Attr) :
    (s.writeAttr a c).plane = s.plane.write a { s.cell a with attr := c } := rfl
@[simp] theorem State.writeFieldCode_plane (a : Nat) (k : Code) :
    (s.writeFieldCode a k).plane = s.plane.write a { s.cell a with code := k } := rfl
@[simp] theorem State.complete_flight (x : Port) : (s.complete x).flight = none := rfl
@[simp] theorem State.cursorOff_holder : s.cursorOff.holder = none := rfl
@[simp] theorem State.countFrame_frameCount : s.countFrame.frameCount = s.frameCount + 1 := rfl
@[simp] theorem State.toDo_flight (todo : List Micro) :
    (s.toDo todo).flight = s.flight.map fun f => { f with todo := todo } := rfl
@[simp] theorem State.refusing_flight (code : RefusalCode) :
    (s.refusing code).flight = s.flight.map fun f => { f with todo := [.refuse code] } := rfl
@[simp] theorem State.granted_grantPtr (x : Port) (w : List Word) (rest : List (List Word))
    (c : Command) : (s.granted x w rest c).grantPtr = x := rfl
@[simp] theorem State.granted_flight (x : Port) (w : List Word) (rest : List (List Word))
    (c : Command) :
    (s.granted x w rest c).flight = some ⟨x, w, Command.named c, [], none, []⟩ := rfl
@[simp] theorem State.delivered_grantPtr (x : Port) (c : Command) :
    (s.delivered x c).grantPtr = x := rfl

/-! ### `State.setClip` -/

@[simp] theorem State.setClip_phase (x : Port) (cut : Bool) :
    (s.setClip x cut).phase = s.phase := by cases cut <;> rfl
@[simp] theorem State.setClip_standby (x : Port) (cut : Bool) :
    (s.setClip x cut).standby = s.standby := by cases cut <;> rfl
@[simp] theorem State.setClip_clock (x : Port) (cut : Bool) :
    (s.setClip x cut).clock = s.clock := by cases cut <;> rfl
@[simp] theorem State.setClip_plane (x : Port) (cut : Bool) :
    (s.setClip x cut).plane = s.plane := by cases cut <;> rfl
@[simp] theorem State.setClip_panes (x : Port) (cut : Bool) :
    (s.setClip x cut).panes = s.panes := by cases cut <;> rfl
@[simp] theorem State.setClip_shownPanes (x : Port) (cut : Bool) :
    (s.setClip x cut).shownPanes = s.shownPanes := by cases cut <;> rfl
@[simp] theorem State.setClip_stack (x : Port) (cut : Bool) :
    (s.setClip x cut).stack = s.stack := by cases cut <;> rfl
@[simp] theorem State.setClip_shownStack (x : Port) (cut : Bool) :
    (s.setClip x cut).shownStack = s.shownStack := by cases cut <;> rfl
@[simp] theorem State.setClip_marks (x : Port) (cut : Bool) :
    (s.setClip x cut).marks = s.marks := by cases cut <;> rfl
@[simp] theorem State.setClip_ramGlyphs (x : Port) (cut : Bool) :
    (s.setClip x cut).ramGlyphs = s.ramGlyphs := by cases cut <;> rfl
@[simp] theorem State.setClip_slots (x : Port) (cut : Bool) :
    (s.setClip x cut).slots = s.slots := by cases cut <;> rfl
@[simp] theorem State.setClip_palette (x : Port) (cut : Bool) :
    (s.setClip x cut).palette = s.palette := by cases cut <;> rfl
@[simp] theorem State.setClip_shownPalette (x : Port) (cut : Bool) :
    (s.setClip x cut).shownPalette = s.shownPalette := by cases cut <;> rfl
@[simp] theorem State.setClip_ramp (x : Port) (cut : Bool) :
    (s.setClip x cut).ramp = s.ramp := by cases cut <;> rfl
@[simp] theorem State.setClip_shownRamp (x : Port) (cut : Bool) :
    (s.setClip x cut).shownRamp = s.shownRamp := by cases cut <;> rfl
@[simp] theorem State.setClip_staleColour (x : Port) (cut : Bool) :
    (s.setClip x cut).staleColour = s.staleColour := by cases cut <;> rfl
@[simp] theorem State.setClip_shownStaleColour (x : Port) (cut : Bool) :
    (s.setClip x cut).shownStaleColour = s.shownStaleColour := by cases cut <;> rfl
@[simp] theorem State.setClip_blink (x : Port) (cut : Bool) :
    (s.setClip x cut).blink = s.blink := by cases cut <;> rfl
@[simp] theorem State.setClip_cursor (x : Port) (cut : Bool) :
    (s.setClip x cut).cursor = s.cursor := by cases cut <;> rfl
@[simp] theorem State.setClip_shownCursor (x : Port) (cut : Bool) :
    (s.setClip x cut).shownCursor = s.shownCursor := by cases cut <;> rfl
@[simp] theorem State.setClip_holder (x : Port) (cut : Bool) :
    (s.setClip x cut).holder = s.holder := by cases cut <;> rfl
@[simp] theorem State.setClip_timing (x : Port) (cut : Bool) :
    (s.setClip x cut).timing = s.timing := by cases cut <;> rfl
@[simp] theorem State.setClip_shownTiming (x : Port) (cut : Bool) :
    (s.setClip x cut).shownTiming = s.shownTiming := by cases cut <;> rfl
@[simp] theorem State.setClip_timingLock (x : Port) (cut : Bool) :
    (s.setClip x cut).timingLock = s.timingLock := by cases cut <;> rfl
@[simp] theorem State.setClip_flight (x : Port) (cut : Bool) :
    (s.setClip x cut).flight = s.flight := by cases cut <;> rfl
@[simp] theorem State.setClip_grantPtr (x : Port) (cut : Bool) :
    (s.setClip x cut).grantPtr = s.grantPtr := by cases cut <;> rfl
@[simp] theorem State.setClip_frameCount (x : Port) (cut : Bool) :
    (s.setClip x cut).frameCount = s.frameCount := by cases cut <;> rfl
@[simp] theorem State.setClip_pending (x : Port) (cut : Bool) :
    (s.setClip x cut).pending = s.pending := by cases cut <;> rfl

end Sys2Proof.Machine
end

