-- ==== Sys2Proof/Laws/Ports.lean ====
section
/-! SUPPORT. Reading and replacing one port, one pane: what a read gives after a write. -/

namespace Sys2Proof.Machine

variable (s : State)

/-! ### Ports -/

@[simp] theorem Ports.get_set_same (ps : Ports) (x : Port) (p : PortState) :
    (ps.set x p).get x = p := by cases x <;> rfl

theorem Ports.get_set_other (ps : Ports) {x y : Port} (p : PortState) (h : y ≠ x) :
    (ps.set x p).get y = ps.get y := by cases x <;> cases y <;> first | rfl | exact absurd rfl h

@[simp] theorem Ports.set_set (ps : Ports) (x : Port) (p q : PortState) :
    (ps.set x p).set x q = ps.set x q := by cases x <;> rfl

@[simp] theorem Ports.set_get (ps : Ports) (x : Port) : ps.set x (ps.get x) = ps := by
  cases x <;> rfl

@[simp] theorem Ports.get_map (ps : Ports) (f : PortState → PortState) (x : Port) :
    (ps.map f).get x = f (ps.get x) := by cases x <;> rfl

/-- Two records of the ports are equal when each port is. -/
theorem Ports.ext_get {ps qs : Ports} (h : ∀ x, ps.get x = qs.get x) : ps = qs := by
  cases ps; cases qs
  have ha := h .a
  have hb := h .b
  have hc := h .c
  simp only [Ports.get] at ha hb hc
  subst ha hb hc
  rfl

@[simp] theorem State.port_setPort_same (x : Port) (p : PortState) :
    (s.setPort x p).port x = p := by simp [State.port]

theorem State.port_setPort_other {x y : Port} (p : PortState) (h : y ≠ x) :
    (s.setPort x p).port y = s.port y := by
  simp [State.port, Ports.get_set_other _ _ h]

@[simp] theorem State.setPort_setPort (x : Port) (p q : PortState) :
    (s.setPort x p).setPort x q = s.setPort x q := by
  simp [State.setPort]

@[simp] theorem State.setPort_port (x : Port) : s.setPort x (s.port x) = s := by
  simp [State.setPort, State.port]

/-- Changing a port by a function is replacing it by the function's value. -/
theorem State.updPort_eq (x : Port) (f : PortState → PortState) :
    s.updPort x f = s.setPort x (f (s.port x)) := rfl

@[simp] theorem State.port_updPort_same (x : Port) (f : PortState → PortState) :
    (s.updPort x f).port x = f (s.port x) := by simp [State.updPort_eq]

theorem State.port_updPort_other {x y : Port} (f : PortState → PortState) (h : y ≠ x) :
    (s.updPort x f).port y = s.port y := by
  rw [State.updPort_eq, State.port_setPort_other _ _ h]

/-- The rotation reaches each port once before it comes round. -/
theorem Port.eq_after (x y : Port) : y = x ∨ y = Port.after x ∨ y = Port.after (Port.after x) := by
  cases x <;> cases y <;> decide

/-! ### Panes -/

@[simp] theorem State.pane_setPane_same (p : PaneId) (r : Pane) : (s.setPane p r).pane p = r := by
  simp [State.pane, State.setPane]

theorem State.pane_setPane_other {p q : PaneId} (r : Pane) (h : q ≠ p) :
    (s.setPane p r).pane q = s.pane q := by
  simp only [State.pane, State.setPane, Fin.getElem_fin]
  exact Vector.getElem_set_ne _ _ (fun e => h (Fin.ext e.symm))

@[simp] theorem State.pane_setView_same (p : PaneId) (v : PaneView) :
    (s.setView p v).pane p = { s.pane p with view := v } := by simp [State.setView]

theorem State.pane_setView_other {p q : PaneId} (v : PaneView) (h : q ≠ p) :
    (s.setView p v).pane q = s.pane q := by
  rw [State.setView, State.pane_setPane_other _ _ h]

@[simp] theorem State.pane_setPort (x : Port) (p : PortState) (q : PaneId) :
    (s.setPort x p).pane q = s.pane q := rfl

@[simp] theorem State.pane_updPort (x : Port) (f : PortState → PortState) (q : PaneId) :
    (s.updPort x f).pane q = s.pane q := rfl

@[simp] theorem State.pane_delivered (x : Port) (c : Command) (q : PaneId) :
    (s.delivered x c).pane q = s.pane q := rfl

@[simp] theorem State.port_setPane (p : PaneId) (r : Pane) (x : Port) :
    (s.setPane p r).port x = s.port x := rfl

@[simp] theorem State.cell_setPort (x : Port) (p : PortState) (a : Nat) :
    (s.setPort x p).cell a = s.cell a := rfl

@[simp] theorem State.cell_updPort (x : Port) (f : PortState → PortState) (a : Nat) :
    (s.updPort x f).cell a = s.cell a := rfl

@[simp] theorem State.cell_delivered (x : Port) (c : Command) (a : Nat) :
    (s.delivered x c).cell a = s.cell a := rfl

@[simp] theorem State.cell_setPane (p : PaneId) (r : Pane) (a : Nat) :
    (s.setPane p r).cell a = s.cell a := rfl

@[simp] theorem State.pane_writeCell (a : Nat) (c : Cell) (q : PaneId) :
    (s.writeCell a c).pane q = s.pane q := rfl

@[simp] theorem State.pane_writeAttr (a : Nat) (t : Attr) (q : PaneId) :
    (s.writeAttr a t).pane q = s.pane q := rfl

@[simp] theorem State.pane_writeFieldCode (a : Nat) (k : Code) (q : PaneId) :
    (s.writeFieldCode a k).pane q = s.pane q := rfl

end Sys2Proof.Machine
end

