-- ==== Sys2Proof/Laws/Arbiter.lean ====
section
/-! SUPPORT. What the arbiter can do, said once: whom it picks, what a grant and the beginning of a command
leave, and where its searches end. -/

namespace Sys2Proof.Machine

variable {s t : State}

/-! ### The arbiter -/

/-- What it means that the arbiter picks a port. -/
theorem State.arbiterPick_some {x : Port} (h : s.arbiterPick = some x) :
    s.flight = none ∧ s.eligible x = true := by
  unfold State.arbiterPick at h
  split at h
  · exact absurd h (by simp)
  · rename_i hf
    exact ⟨by simpa using hf, by simpa using List.find?_some h⟩

/-- The arbiter picks nobody only when the engine is busy or nobody is eligible. -/
theorem State.arbiterPick_none (h : s.arbiterPick = none) :
    s.flight ≠ none ∨ ∀ x, s.eligible x = false := by
  unfold State.arbiterPick at h
  split at h
  · rename_i hf
    exact .inl (by simpa [Option.isSome_iff_ne_none] using hf)
  · refine .inr fun x => ?_
    have := List.find?_eq_none.mp h
    rcases Port.eq_after s.grantPtr x with rfl | rfl | rfl <;> simpa using this _ (by simp)

/-- An eligible port is RUNNING, does not wait and has a complete transfer at its head (R88). -/
theorem State.eligible_facts {x : Port} (h : s.eligible x = true) :
    s.phase = .running ∧ (s.port x).faults.condition = .running ∧ (s.port x).waiting = false ∧
      ∃ w rest, (s.port x).queue = w :: rest ∧ replyNeed (decodeCommand w) ≤ (s.port x).room := by
  unfold State.eligible at h
  split at h
  · exact absurd h (by simp)
  · rename_i w rest hq
    simp only [Bool.and_eq_true, decide_eq_true_eq, Bool.not_eq_true'] at h
    exact ⟨h.1.1.1, h.1.1.2, h.1.2, w, rest, hq, h.2⟩

/-- The pick is a matter of the phase, the engine, the pointer and, for each port, its queue, condition,
waiting flag and room. -/
theorem State.eligible_congr {x : Port} (hphase : t.phase = s.phase)
    (hq : (t.port x).queue = (s.port x).queue)
    (hc : (t.port x).faults.condition = (s.port x).faults.condition)
    (hw : (t.port x).waiting = (s.port x).waiting) (hr : (t.port x).room = (s.port x).room) :
    t.eligible x = s.eligible x := by
  unfold State.eligible
  rw [hq, hphase, hc, hw, hr]

theorem State.arbiterPick_congr (hflight : t.flight = s.flight) (hptr : t.grantPtr = s.grantPtr)
    (h : ∀ x, t.eligible x = s.eligible x) : t.arbiterPick = s.arbiterPick := by
  unfold State.arbiterPick
  simp only [hflight, hptr, h]

/-- With the engine busy, or nobody eligible, nobody is picked. -/
theorem State.arbiterPick_eq_none (h : s.flight ≠ none ∨ ∀ x, s.eligible x = false) :
    s.arbiterPick = none := by
  unfold State.arbiterPick
  rcases h with h | h
  · simp [Option.isSome_iff_ne_none, h]
  · simp [h]

/-- A port changed in nothing that eligibility asks about leaves the pick. -/
theorem State.arbiterPick_setPort (s : State) (x : Port) (p : PortState)
    (hq : p.queue = (s.port x).queue) (hc : p.faults.condition = (s.port x).faults.condition)
    (hw : p.waiting = (s.port x).waiting) (hr : p.room = (s.port x).room) :
    (s.setPort x p).arbiterPick = s.arbiterPick := by
  refine State.arbiterPick_congr rfl rfl fun y => ?_
  by_cases hy : y = x
  · subst hy
    exact State.eligible_congr rfl (by simpa) (by simpa) (by simpa) (by simpa)
  · refine State.eligible_congr (s := s) rfl ?_ ?_ ?_ ?_ <;> rw [State.port_setPort_other _ _ hy]

/-! ### The beginning of a command -/

/-- The first event of a command changes of the ports only CLIP and the waiting flag of the issuing one;
the phase, the pointer and what is not the engine's stay, and the command in flight keeps its port. -/
theorem startCommand_frame (x : Port) (c : Command) (s : State) :
    (∃ clip waiting, (startCommand x c s).ports =
      s.ports.set x { s.port x with clip := clip, waiting := waiting }) ∧
      (startCommand x c s).phase = s.phase ∧ (startCommand x c s).standby = s.standby ∧
      (startCommand x c s).clock = s.clock ∧ (startCommand x c s).pending = s.pending ∧
      (startCommand x c s).grantPtr = s.grantPtr ∧
      (startCommand x c s).flight.map Flight.port = s.flight.map Flight.port := by
  have same : ∀ t : State, t.ports = s.ports → ∃ clip waiting, t.ports =
      s.ports.set x { s.port x with clip := clip, waiting := waiting } := fun t h =>
    ⟨(s.port x).clip, (s.port x).waiting, by rw [h]; exact (Ports.set_get s.ports x).symm⟩
  have quiet : ∀ t : State, t.ports = s.ports → t.phase = s.phase → t.standby = s.standby →
      t.clock = s.clock → t.pending = s.pending → t.grantPtr = s.grantPtr →
      t.flight.map Flight.port = s.flight.map Flight.port →
      (∃ clip waiting, t.ports = s.ports.set x { s.port x with clip := clip, waiting := waiting }) ∧
        t.phase = s.phase ∧ t.standby = s.standby ∧ t.clock = s.clock ∧ t.pending = s.pending ∧
        t.grantPtr = s.grantPtr ∧ t.flight.map Flight.port = s.flight.map Flight.port :=
    fun t h1 h2 h3 h4 h5 h6 h7 => ⟨same t h1, h2, h3, h4, h5, h6, h7⟩
  have steps : ∀ todo : List Micro, (s.toDo todo).flight.map Flight.port =
      s.flight.map Flight.port := fun todo => by simp [Option.map_map, Function.comp_def]
  have refused : ∀ code, (s.refusing code).flight.map Flight.port =
      s.flight.map Flight.port := fun code => steps _
  have taken : ∀ (cut : Bool) (todo : List Micro),
      (∃ clip waiting, (s.takeFlight x cut todo).ports =
        s.ports.set x { s.port x with clip := clip, waiting := waiting }) ∧
        (s.takeFlight x cut todo).phase = s.phase ∧ (s.takeFlight x cut todo).standby = s.standby ∧
        (s.takeFlight x cut todo).clock = s.clock ∧
        (s.takeFlight x cut todo).pending = s.pending ∧
        (s.takeFlight x cut todo).grantPtr = s.grantPtr ∧
        (s.takeFlight x cut todo).flight.map Flight.port = s.flight.map Flight.port := by
    intro cut todo
    cases cut
    · exact quiet _ rfl rfl rfl rfl rfl rfl (steps todo)
    · exact ⟨⟨true, (s.port x).waiting, rfl⟩, rfl, rfl, rfl, rfl, rfl, steps todo⟩
  cases c <;> simp only [startCommand]
  case wait => exact ⟨⟨(s.port x).clip, true, rfl⟩, rfl, rfl, rfl, rfl, rfl, rfl⟩
  case readGlyph =>
    unfold engineReadGlyph
    split
    · exact quiet _ rfl rfl rfl rfl rfl rfl (refused _)
    · exact quiet _ rfl rfl rfl rfl rfl rfl (steps _)
  all_goals
    first
    | unfold engineDefine | unfold engineShow | unfold engineHide | unfold engineDrop
    | unfold engineClaim | unfold engineRelease | unfold engineRaise | unfold engineLower
    | unfold engineBehind | unfold engineSetTop | unfold beginRoll | unfold beginLog
    | unfold beginPlace | unfold beginSweep | unfold beginShift | unfold beginTint | unfold beginTick
    | unfold beginReadCells | unfold engineGlyph | unfold enginePatch | unfold enginePatchRows
    | unfold enginePatchCode | unfold engineUnpatch | unfold enginePalette | unfold engineRamp
    | unfold engineStaleColour | unfold engineBlink | unfold engineCursor | unfold engineTiming
    | unfold engineLock
  all_goals try dsimp only
  all_goals repeat' split
  all_goals
    first
    | exact quiet _ rfl rfl rfl rfl rfl rfl rfl
    | exact quiet _ rfl rfl rfl rfl rfl rfl (refused _)
    | exact taken _ _

/-- A command that begins completes in the same event, or is in flight with steps to do. -/
theorem State.completeIfDone_cases (s : State) (x : Port) :
    s.completeIfDone x = s ∨ s.completeIfDone x = s.complete x := by
  unfold State.completeIfDone
  split
  · split
    · exact .inr rfl
    · exact .inl rfl
  · exact .inl rfl

/-- The beginning of a command changes of the ports only CLIP, the waiting flag and the reservation of the
issuing one, and leaves what is not the engine's. -/
theorem beginCommand_frame (x : Port) (c : Command) (s : State) :
    (∃ clip waiting reserved, (beginCommand x c s).ports =
      s.ports.set x { s.port x with clip := clip, waiting := waiting, reserved := reserved }) ∧
      (beginCommand x c s).phase = s.phase ∧ (beginCommand x c s).standby = s.standby ∧
      (beginCommand x c s).clock = s.clock ∧ (beginCommand x c s).pending = s.pending ∧
      (beginCommand x c s).grantPtr = s.grantPtr := by
  obtain ⟨⟨clip, waiting, hports⟩, h1, h2, h3, h4, h5, -⟩ := startCommand_frame x c s
  unfold beginCommand
  rcases State.completeIfDone_cases (startCommand x c s) x with h | h
  · rw [h]
    exact ⟨⟨clip, waiting, _, hports⟩, h1, h2, h3, h4, h5⟩
  · rw [h]
    refine ⟨⟨clip, waiting, 0, ?_⟩, h1, h2, h3, h4, h5⟩
    simp [State.complete, hports, State.port, PortState.releaseReserved]

/-! ### A grant -/

/-- Everything a grant can do: nothing without a transfer, else the head transfer leaves and its command
begins. -/
theorem grantTo_cases (x : Port) (s : State) :
    ((s.port x).queue = [] ∧ grantTo x s = s) ∨
      ∃ w rest, (s.port x).queue = w :: rest ∧
        ((decodeCommand w = none ∧ grantTo x s =
            { s with grantPtr := x }.updPort x fun p => { p with queue := rest }) ∨
          ∃ c, decodeCommand w = some c ∧
            grantTo x s = beginCommand x c (s.granted x w rest c)) := by
  cases hq : (s.port x).queue with
  | nil => exact .inl ⟨rfl, by simp only [grantTo, hq]⟩
  | cons w rest =>
    refine .inr ⟨w, rest, rfl, ?_⟩
    cases hd : decodeCommand w with
    | none => exact .inl ⟨rfl, by simp only [grantTo, hq, hd]⟩
    | some c => exact .inr ⟨c, rfl, by simp only [grantTo, hq, hd]⟩

/-- A grant takes the head transfer from its port's queue, and of the ports changes nothing else but CLIP,
the waiting flag and the reservation of that port. -/
theorem grantTo_ports {x : Port} {w : List Word} {rest : List (List Word)}
    (h : (s.port x).queue = w :: rest) :
    ∃ clip waiting reserved, (grantTo x s).ports = s.ports.set x
      { s.port x with queue := rest, clip := clip, waiting := waiting, reserved := reserved } := by
  rcases grantTo_cases x s with ⟨hq, -⟩ | ⟨w', rest', hq, hc⟩
  · rw [h] at hq
    exact absurd hq (by simp)
  · rw [h] at hq
    obtain ⟨rfl, rfl⟩ := List.cons.inj hq
    rcases hc with ⟨-, e⟩ | ⟨c, -, e⟩
    · exact ⟨(s.port x).clip, (s.port x).waiting, (s.port x).reserved, by rw [e]; rfl⟩
    · obtain ⟨⟨clip, waiting, reserved, hp⟩, -⟩ := beginCommand_frame x c (s.granted x w rest c)
      refine ⟨clip, waiting, reserved, ?_⟩
      rw [e, hp]
      simp [State.granted, State.port]

/-- A grant leaves the phase. -/
@[simp] theorem grantTo_phase (x : Port) (s : State) : (grantTo x s).phase = s.phase := by
  rcases grantTo_cases x s with ⟨-, e⟩ | ⟨w, rest, -, ⟨-, e⟩ | ⟨c, -, e⟩⟩ <;> rw [e]
  · rfl
  · exact (beginCommand_frame x c _).2.1

/-! ### The searches of the arbiter (R91) -/

/-- A port's queue counted among the three. -/
theorem State.queuedTransfers_set (s t : State) (x : Port) (p : PortState)
    (h : t.ports = s.ports.set x p) :
    t.queuedTransfers + (s.port x).queue.length = s.queuedTransfers + p.queue.length := by
  unfold State.queuedTransfers
  rw [h]
  cases x <;> simp only [Ports.set, State.port, Ports.get] <;> omega

/-- A grant that the arbiter makes takes one transfer away. -/
theorem grantTo_queuedTransfers {x : Port} (h : s.arbiterPick = some x) :
    (grantTo x s).queuedTransfers + 1 = s.queuedTransfers := by
  obtain ⟨-, he⟩ := State.arbiterPick_some h
  obtain ⟨-, -, -, w, rest, hq, -⟩ := State.eligible_facts he
  obtain ⟨clip, waiting, reserved, hp⟩ := grantTo_ports hq
  have := State.queuedTransfers_set s _ x _ hp
  simp only [hq, List.length_cons] at this
  omega

/-- More searches than there are transfers change nothing. -/
theorem arbitrateFor_enough : ∀ (n : Nat) (s : State), s.queuedTransfers ≤ n →
    arbitrateFor n s = s.arbitrate := by
  intro n
  induction n with
  | zero =>
    intro s h
    rw [State.arbitrate, Nat.le_zero.mp h]
  | succ n ih =>
    intro s h
    rcases hm : s.queuedTransfers with _ | m
    · rw [State.arbitrate, hm]
      simp only [arbitrateFor]
      split
      · rfl
      · rename_i x hx
        have := grantTo_queuedTransfers hx
        omega
    · rw [State.arbitrate, hm]
      simp only [arbitrateFor]
      split
      · rfl
      · rename_i x hx
        have hg := grantTo_queuedTransfers hx
        have : (grantTo x s).queuedTransfers = m := by omega
        rw [ih _ (by omega), State.arbitrate, this]

/-- With nobody to grant, a search changes nothing. -/
theorem State.arbitrate_of_none (h : s.arbiterPick = none) : s.arbitrate = s := by
  unfold State.arbitrate
  rcases s.queuedTransfers with _ | n
  · rfl
  · simp only [arbitrateFor, h]

/-- A search that finds a port grants it, and the next search follows (R90, R91). -/
theorem State.arbitrate_of_some {x : Port} (h : s.arbiterPick = some x) :
    s.arbitrate = (grantTo x s).arbitrate := by
  have hg := grantTo_queuedTransfers h
  rw [State.arbitrate, ← hg]
  simp only [arbitrateFor, h]
  exact arbitrateFor_enough _ _ (le_refl _)

/-- After the arbiter's searches no eligible port waits with the engine empty (R91). -/
theorem State.arbitrate_served (s : State) : s.arbitrate.arbiterPick = none := by
  induction hn : s.queuedTransfers using Nat.strongRecOn generalizing s with
  | _ n ih =>
    cases h : s.arbiterPick with
    | none => rw [State.arbitrate_of_none h, h]
    | some x =>
      rw [State.arbitrate_of_some h]
      have := grantTo_queuedTransfers h
      exact ih _ (by omega) _ rfl

/-- The arbiter's searches keep what each of its grants keeps. -/
theorem State.arbitrate_keeps {P : State → Prop}
    (hgrant : ∀ s x, P s → s.arbiterPick = some x → P (grantTo x s)) (s : State) (hs : P s) :
    P s.arbitrate := by
  induction hn : s.queuedTransfers using Nat.strongRecOn generalizing s with
  | _ n ih =>
    cases h : s.arbiterPick with
    | none => rwa [State.arbitrate_of_none h]
    | some x =>
      rw [State.arbitrate_of_some h]
      have := grantTo_queuedTransfers h
      exact ih _ (by omega) _ (hgrant s x hs h) rfl

end Sys2Proof.Machine
end

