-- ==== Sys2Proof/Laws/Words.lean ====
section
/-! SUPPORT. What the words of a port carry: their contents, the command code of a header, and the words
and the count of a command's transfer. -/

namespace Sys2Proof

/-- The bits below the parity bit are the contents a word is made from. -/
theorem mkWord_toNat_mod (n : Nat) : (mkWord n).toNat % 32768 = n % 32768 := by
  unfold mkWord
  rw [BitVec.toNat_ofNat]
  split <;> omega

/-- A field below the parity bit is a field of the contents. -/
theorem field_mkWord (n lo width : Nat) (h : lo + width ≤ 15) :
    field (mkWord n) lo width = n / 2 ^ lo % 2 ^ width := by
  have hw := mkWord_toNat_mod n
  have hp : (32768 : Nat) = 2 ^ lo * (2 ^ width * 2 ^ (15 - lo - width)) := by
    rw [← Nat.pow_add, ← Nat.pow_add]
    have : lo + (width + (15 - lo - width)) = 15 := by omega
    rw [this]
  have key (m : Nat) : m / 2 ^ lo % 2 ^ width = m % 32768 / 2 ^ lo % 2 ^ width := by
    rw [hp, Nat.mod_mul_right_div_self, Nat.mod_mul_right_mod]
  rw [field, key, hw, ← key]

/-- The command code of a header word. -/
theorem headerCode_mkWord_header (code index options : Nat) :
    headerCode (mkWord (header code index options)) = code % 64 := by
  rw [headerCode, field_mkWord _ _ _ (by omega)]
  unfold header
  omega

/-- The number of words of a command's transfer is that of its contents. -/
@[simp] theorem encodeCommand_length (c : Command) :
    (encodeCommand c).length = (commandContents c).length := by
  simp [encodeCommand]

end Sys2Proof
end

