-- ==== Sys2Proof/Laws/Transfer.lean ====
section
/-! SUPPORT. What a transfer does to its port: the serial events change one port, and a good engine
transfer ends as a complete transfer at the tail of the queue. -/

namespace Sys2Proof.Machine

variable (s : State) (x : Port)

/-! ### Fault events change the fault record and the queue alone -/

/-- A fault event leaves the open transfer, the reply buffer, the lines and what was sent. -/
theorem FaultMode.act_frame (m : FaultMode) (flags : List Flag) (p : PortState) :
    m.act flags p =
      { p with faults := (m.act flags p).faults, queue := (m.act flags p).queue } := by
  cases m <;> rfl

/-- A fault event leaves the modes; the queue stays, or goes whole under LATCH. -/
theorem FaultMode.act_queue (m : FaultMode) (flags : List Flag) (p : PortState) :
    (m.act flags p).queue = if m = .latch then [] else p.queue := by
  cases m <;> rfl

@[simp] theorem PortState.linkFault_openT (p : PortState) (flags : List Flag) :
    (p.linkFault flags).openT = p.openT := by
  rw [PortState.linkFault, FaultMode.act_frame]

@[simp] theorem PortState.linkFault_held (p : PortState) (flags : List Flag) :
    (p.linkFault flags).held = p.held := by
  rw [PortState.linkFault, FaultMode.act_frame]

@[simp] theorem PortState.linkFault_reply (p : PortState) (flags : List Flag) :
    (p.linkFault flags).reply = p.reply := by
  rw [PortState.linkFault, FaultMode.act_frame]

@[simp] theorem PortState.linkFault_reserved (p : PortState) (flags : List Flag) :
    (p.linkFault flags).reserved = p.reserved := by
  rw [PortState.linkFault, FaultMode.act_frame]

/-- Whether a port is ready depends on the phase, standby and its reset line. -/
theorem State.ready_setPort {p : PortState} (h : p.held = (s.port x).held) :
    (s.setPort x p).ready x = s.ready x := by
  simp only [State.ready, State.port_setPort_same, State.setPort_phase, State.setPort_standby, h]
  rfl

/-! ### Each serial event changes its port alone -/

/-- What a sampled word makes of its port while it is ready. -/
def PortState.sampled (w : Word) (p : PortState) : PortState :=
  match p.openT with
  | none => p
  | some o => ((p.shiftOut o).takeIn o w).chooseOut

theorem onWordSampled_eq (w : Word) :
    onWordSampled x w s = if s.ready x then s.setPort x ((s.port x).sampled w) else s := by
  unfold onWordSampled PortState.sampled State.updPort
  split <;> simp_all

@[simp] theorem PortState.takeIn_held (o : OpenTransfer) (w : Word) (p : PortState) :
    (p.takeIn o w).held = p.held := by
  unfold PortState.takeIn
  split
  · rfl
  · dsimp only
    split
    · split <;> simp
    · rfl

@[simp] theorem PortState.chooseOut_held (p : PortState) : p.chooseOut.held = p.held := by
  unfold PortState.chooseOut
  repeat' split
  all_goals rfl

@[simp] theorem PortState.sampled_held (w : Word) (p : PortState) :
    (p.sampled w).held = p.held := by
  unfold PortState.sampled
  split
  · rfl
  · simp [PortState.shiftOut]

/-- A run of words sampled on a ready port is the run on its port state. -/
theorem foldl_onWordSampled (ws : List Word) (h : s.ready x = true) :
    ws.foldl (fun t w => onWordSampled x w t) s =
      s.setPort x (ws.foldl (fun p w => p.sampled w) (s.port x)) := by
  induction ws generalizing s with
  | nil => simp
  | cons w ws ih =>
    have hr : (s.setPort x ((s.port x).sampled w)).ready x = true := by
      rw [State.ready_setPort _ _ (by simp), h]
    rw [List.foldl_cons, List.foldl_cons, onWordSampled_eq, if_pos h, ih _ hr]
    simp

/-- The end of a transfer changes its port alone. -/
theorem onTransferEnd_eq (k : Fin 16) :
    ∃ p, onTransferEnd x k s = s.setPort x p := by
  unfold onTransferEnd
  split
  · exact ⟨s.port x, by simp⟩
  · exact ⟨_, rfl⟩

/-- The beginning of a transfer changes its port alone. -/
theorem onTransferStart_eq : ∃ p, onTransferStart x s = s.setPort x p := by
  simp only [onTransferStart]
  split
  · exact ⟨s.port x, by simp⟩
  · split <;> exact ⟨_, rfl⟩

/-- A sampled word changes its port alone. -/
theorem onWordSampled_port (w : Word) : ∃ p, onWordSampled x w s = s.setPort x p := by
  rw [onWordSampled_eq]
  split
  · exact ⟨_, rfl⟩
  · exact ⟨s.port x, by simp⟩

/-- Words sampled while nobody is left to grant after any of them: the arbiter's searches change nothing. -/
theorem foldl_sampled_served (ws : List Word)
    (h : ∀ k ≤ ws.length,
      ((ws.take k).foldl (fun t w => onWordSampled x w t) s).arbiterPick = none) :
    ws.foldl (fun t w => (onWordSampled x w t).arbitrate) s =
      ws.foldl (fun t w => onWordSampled x w t) s := by
  induction ws generalizing s with
  | nil => rfl
  | cons w ws ih =>
    have h1 : (onWordSampled x w s).arbiterPick = none := by simpa using h 1 (by simp)
    rw [List.foldl_cons, List.foldl_cons, State.arbitrate_of_none h1]
    exact ih _ fun k hk => by simpa using h (k + 1) (by simpa using hk)

/-! ### A good engine transfer -/

/-- The port while a good engine transfer is clocked in: `n` words sent, `ws` queued. -/
def PortState.taking (p : PortState) (b h : Word) (ws sent : List Word) (out : Word) : PortState :=
  { p with
    selLow := true
    sent := sent
    openT := some ⟨some h, some .queue, ws.length, 0, false, false, [], ws, b, out, false⟩ }

/-- One more good word of an engine transfer that has room. -/
theorem PortState.sampled_taking (p : PortState) (b h w : Word) (ws sent : List Word) (out : Word)
    (hcode : headerCode h ≠ 1) (hw : parityGood w = true) (hsent : 1 ≤ sent.length)
    (hroom : (p.queue.map List.length).sum + ws.length < 128) :
    (p.taking b h ws sent out).sampled w =
      p.taking b h (ws ++ [w]) (sent ++ [out]) fillerWord := by
  have hheld : ¬ Config.queueWords ≤ (p.queue.map List.length).sum + ws.length := by
    have : Config.queueWords = 128 := rfl
    omega
  simp [PortState.sampled, PortState.taking, PortState.shiftOut, PortState.takeIn,
    PortState.wordsHeld, OpenTransfer.read, PortState.chooseOut, OpenTransfer.fetches, hcode, hw,
    hheld, -Nat.not_le, -not_le]
  intro e
  simp [e] at hsent

/-- The good words of an engine transfer that has room for them all. -/
theorem PortState.foldl_sampled_taking (p : PortState) (b h : Word) (args : List Word)
    (hcode : headerCode h ≠ 1) (hargs : ∀ w ∈ args, parityGood w = true) :
    ∀ (ws sent : List Word) (out : Word), 1 ≤ sent.length →
      (p.queue.map List.length).sum + ws.length + args.length ≤ 128 →
      args.foldl (fun q w => q.sampled w) (p.taking b h ws sent out) =
        p.taking b h (ws ++ args)
          (sent ++ (out :: List.replicate args.length fillerWord).take args.length)
          (if args = [] then out else fillerWord) := by
  induction args with
  | nil => intro ws sent out _ _; simp
  | cons w args ih =>
    intro ws sent out hs hr
    simp only [List.length_cons] at hr
    rw [List.foldl_cons, PortState.sampled_taking p b h w ws sent out hcode
      (hargs w (by simp)) hs (by omega),
      ih (fun v hv => hargs v (by simp [hv])) _ _ _ (by simp) (by simp; omega)]
    cases args with
    | nil => simp
    | cons v args => simp [List.replicate_succ, List.append_assoc]

/-- The words shifted beside a transfer of at least one word. -/
theorem shiftedWords_succ (a b : Word) (n : Nat) :
    shiftedWords a b (n + 1) = [a] ++ (b :: List.replicate n fillerWord).take n := by
  cases n with
  | zero => rfl
  | succ n =>
    have h1 : min n (n + 1 + 1) = n := by omega
    have h2 : min n (n + 1) = n := by omega
    simp only [shiftedWords, List.take_succ_cons, List.take_replicate, h1, h2, List.singleton_append]

/-- A good engine transfer with room in the queue becomes complete at its tail, or is removed on a
HALTED port; the port shifts its status words and fillers (R174, R176-R178). The arbiter then searches;
before it nobody was to be granted (R91). -/
theorem sendWords_engine (h : Word) (args : List Word) (p : PortState)
    (hserved : s.ServedLaw) (hready : s.ready x = true) (hhigh : (s.port x).selLow = false)
    (hparity : ∀ w ∈ h :: args, parityGood w = true) (hservice : isService (headerCode h) = false)
    (hcount : countAllowed (headerCode h) (args.length + 1) = true)
    (hroom : ((s.port x).queue.map List.length).sum + (args.length + 1) ≤ 128)
    (hp : p = { s.port x with
      openT := none
      sent := shiftedWords (s.statusA x) (s.statusB x) (args.length + 1)
      sentBits := [] }) :
    sendWords x (h :: args) s = (s.setPort x
      (if p.faults.condition = .halted then p
      else { p with queue := p.queue ++ [h :: args] })).arbitrate := by
  have hcode : headerCode h ≠ 1 := by
    intro e
    rw [e] at hservice
    exact absurd hservice (by decide)
  have hh : parityGood h = true := hparity h (by simp)
  set A := s.statusA x
  set B := s.statusB x
  -- the port with its line low and its record of shifted bits empty
  obtain ⟨P, hP⟩ : ∃ P, P = { s.port x with sentBits := [] } := ⟨_, rfl⟩
  have hq : P.queue = (s.port x).queue := by rw [hP]
  -- the falling edge
  have hstart : onTransferStart x s = s.setPort x
      { P with selLow := true, sent := [], openT := some (OpenTransfer.begun A B) } := by
    simp only [onTransferStart, hhigh, hready, hP]
    rfl
  have hr1 : (s.setPort x
      { P with selLow := true, sent := [], openT := some (OpenTransfer.begun A B) }).ready x =
        true := by
    rw [State.ready_setPort _ _ (by rw [hP]), hready]
  -- the header
  have hfirst : ({ P with selLow := true, sent := [], openT := some (OpenTransfer.begun A B) }
      : PortState).sampled h = P.taking B h [h] [A] B := by
    have hheld : ¬ Config.queueWords ≤ (P.queue.map List.length).sum := by
      have : Config.queueWords = 128 := rfl
      rw [hq]
      omega
    simp [PortState.sampled, PortState.taking, PortState.shiftOut, PortState.takeIn,
      PortState.wordsHeld, OpenTransfer.read, PortState.chooseOut, OpenTransfer.begun, hservice, hh,
      hheld]
  -- the words
  have hargs : ∀ k, (args.take k).foldl (fun q w => q.sampled w) (P.taking B h [h] [A] B) =
      P.taking B h ([h] ++ args.take k)
        ([A] ++ (B :: List.replicate (args.take k).length fillerWord).take (args.take k).length)
        (if args.take k = [] then B else fillerWord) := fun k =>
    PortState.foldl_sampled_taking P B h (args.take k) hcode
      (fun w hw => hparity w (by simp [List.mem_of_mem_take hw])) [h] [A] B (by simp)
      (by rw [hq]; simp; omega)
  have quiet : ∀ q : PortState, q.queue = P.queue → q.faults = P.faults → q.waiting = P.waiting →
      q.room = P.room → (s.setPort x q).arbiterPick = none := fun q h1 h2 h3 h4 => by
    rw [State.arbiterPick_setPort, hserved] <;> simp [h1, h2, h3, h4, hP]
    rfl
  have hserve : ∀ k ≤ (h :: args).length,
      (((h :: args).take k).foldl (fun t w => onWordSampled x w t) (s.setPort x
        { P with selLow := true, sent := [], openT := some (OpenTransfer.begun A B) })).arbiterPick =
        none := by
    intro k _
    rw [foldl_onWordSampled _ _ _ hr1]
    simp only [State.port_setPort_same, State.setPort_setPort]
    cases k with
    | zero => exact quiet _ rfl rfl rfl rfl
    | succ k =>
      rw [List.take_succ_cons, List.foldl_cons, hfirst, hargs]
      exact quiet _ rfl rfl rfl rfl
  have hall := hargs args.length
  rw [List.take_length] at hall
  unfold sendWords
  rw [hhigh, if_neg (by simp), hstart, foldl_sampled_served _ _ _ hserve,
    foldl_onWordSampled _ _ _ hr1]
  simp only [State.port_setPort_same, List.foldl_cons, hfirst, hall, State.setPort_setPort]
  -- the rising edge
  have hsent : [A] ++ (B :: List.replicate args.length fillerWord).take args.length =
      shiftedWords A B (args.length + 1) := (shiftedWords_succ A B args.length).symm
  simp only [hsent]
  simp only [onTransferEnd, State.port_setPort_same, PortState.taking, State.updPort_eq,
    State.setPort_setPort]
  have hflags : (⟨some h, some Destination.queue, ([h] ++ args).length, 0, false, false, [],
      [h] ++ args, B, if args = [] then B else fillerWord, false⟩ : OpenTransfer).linkFlags = [] := by
    have : ([h] ++ args).length = args.length + 1 := by simp
    simp [OpenTransfer.linkFlags, OpenTransfer.badFormat, hh, hcount]
  simp only [PortState.endTransfer, PortState.discardOpen, Fin.val_zero, hflags]
  subst hp hP
  simp [hhigh, firstBits]

end Sys2Proof.Machine
end

