-- ==== Sys2Proof/Laws/Engine.lean ====
section
/-! SUPPORT. What the engine, the arbiter and an event can do, said once: inversion lemmas, and the closure
principles that take a property of states through a command and through a step. -/

namespace Sys2Proof.Machine

variable {s t : State}

/-! ### One step of the command in flight -/

/-- Everything a step of the engine can do when it answers a next state. -/
theorem engineStep_next (h : engineStep s = .next t) :
    (s.flight = none ∧ t = s) ∨
      (∃ f, s.flight = some f ∧ f.todo = [] ∧ t = s.complete f.port) ∨
      ∃ f m rest, s.flight = some f ∧ f.todo = m :: rest ∧
        (∀ a, m.address (s.pane f.pane).view = some a → a < Config.planeSize) ∧
        t = s.stepDone f m rest := by
  unfold engineStep at h
  split at h
  · rename_i hf
    exact .inl ⟨hf, by simpa using h.symm⟩
  · rename_i f hf
    split at h
    · rename_i ht
      exact .inr (.inl ⟨f, hf, ht, by simpa using h.symm⟩)
    · rename_i m rest ht
      split at h
      · rename_i a ha
        split at h
        · rename_i hlt
          refine .inr (.inr ⟨f, m, rest, hf, ht, fun b hb => ?_, by simpa using h.symm⟩)
          rw [ha] at hb
          exact Option.some.inj hb ▸ hlt
        · exact absurd h (by simp)
      · rename_i ha
        exact .inr (.inr ⟨f, m, rest, hf, ht, fun b hb => by simp [ha] at hb,
          by simpa using h.symm⟩)

/-- The engine faults at an address past the plane, and there alone (log 20). -/
theorem engineStep_fault {r : Fault} (h : engineStep s = .fault r) :
    ∃ f m rest a, s.flight = some f ∧ f.todo = m :: rest ∧
      m.address (s.pane f.pane).view = some a ∧ Config.planeSize ≤ a ∧ r = .noSuchCell a := by
  unfold engineStep at h
  split at h
  · exact absurd h (by simp)
  · rename_i f hf
    split at h
    · exact absurd h (by simp)
    · rename_i m rest ht
      split at h
      · rename_i a ha
        split at h
        · exact absurd h (by simp)
        · exact ⟨f, m, rest, a, hf, ht, ha, by omega, by simpa using h.symm⟩
      · exact absurd h (by simp)

/-- The engine refuses nothing as a model: a refused command is a next state. -/
theorem engineStep_not_refused {r : Refusal} : engineStep s ≠ .refused r := by
  unfold engineStep
  repeat' split
  all_goals simp

/-- A run of the engine keeps what each of its steps keeps. -/
theorem engineSteps_keeps {P : State → Prop}
    (hstep : ∀ s t, P s → engineStep s = .next t → P t) :
    ∀ (n : Nat) (s t : State), P s → engineSteps n s = .next t → P t := by
  intro n
  induction n with
  | zero =>
    intro s t hs h
    simp only [engineSteps, Host.Outcome.next.injEq] at h
    exact h ▸ hs
  | succ n ih =>
    intro s t hs h
    simp only [engineSteps] at h
    split at h
    · rename_i u hu
      exact ih u t (hstep s u hs hu) h
    · exact absurd h (by simp)
    · exact absurd h (by simp)

theorem engineSteps_not_refused {r : Refusal} : ∀ (n : Nat) (s : State),
    engineSteps n s ≠ .refused r := by
  intro n
  induction n with
  | zero => simp [engineSteps]
  | succ n ih =>
    intro s
    simp only [engineSteps]
    split
    · exact ih _
    · simp
    · rename_i hr
      exact absurd hr engineStep_not_refused

/-- With no command in flight there is nothing to carry out. -/
theorem finishFlight_none (h : s.flight = none) : finishFlight s = .next s := by
  simp [finishFlight, State.stepsLeft, h, engineSteps]

/-- A command with no step to do completes in the event that begins it. -/
theorem State.completeIfDone_nil {f : Flight} (x : Port) (hf : s.flight = some f)
    (ht : f.todo = []) : s.completeIfDone x = s.complete x := by
  simp [State.completeIfDone, hf, ht]

/-- A command with steps to do is in flight with them. -/
theorem State.completeIfDone_cons {f : Flight} {m : Micro} {todo : List Micro} (x : Port)
    (hf : s.flight = some f) (ht : f.todo = m :: todo) : s.completeIfDone x = s := by
  simp [State.completeIfDone, hf, ht]

/-! ### Commands and events -/

/-- A row that is an engine command sends it, and does nothing else. -/
theorem exec_command {i : Instr} {x : Port} {c : Command} (h : i.command = some (x, c)) (s : State) :
    exec i s = sendCommand x c s := by
  cases i <;> simp only [Instr.command, Option.some.injEq, Prod.mk.injEq, reduceCtorEq] at h <;>
    obtain ⟨rfl, rfl⟩ := h <;> rfl

/-- An outcome with the arbiter's searches after it is a next state only after a next state. -/
theorem thenArbitrate_next {o : Host.Outcome State Fault Refusal} (h : thenArbitrate o = .next t) :
    ∃ u, o = .next u ∧ t = u.arbitrate := by
  cases o <;> simp [thenArbitrate] at h ⊢
  exact h.symm

/-- Everything a command row can do: its transfer alone, or its transfer and a run of the engine that ends
with the arbiter's searches. -/
theorem sendCommand_next {x : Port} {c : Command} (h : sendCommand x c s = .next t) :
    t = sendWords x (encodeCommand c) s ∨
      ∃ u, finishFlight (sendWords x (encodeCommand c) s) = .next u ∧ t = u.arbitrate := by
  simp only [sendCommand] at h
  split at h
  · exact .inr (thenArbitrate_next h)
  · exact .inl (by simpa using h.symm)

/-- A command row keeps what every transfer, every grant and every step of the engine keeps. -/
theorem sendCommand_keeps {P : State → Prop} {x : Port} {c : Command}
    (hsend : ∀ ws s, P s → P (sendWords x ws s))
    (hgrant : ∀ s x, P s → s.arbiterPick = some x → P (grantTo x s))
    (hstep : ∀ s t, P s → engineStep s = .next t → P t)
    (hs : P s) (h : sendCommand x c s = .next t) : P t := by
  rcases sendCommand_next h with rfl | ⟨u, hf, rfl⟩
  · exact hsend _ _ hs
  · exact State.arbitrate_keeps hgrant _ (engineSteps_keeps hstep _ _ _ (hsend _ _ hs) hf)

/-- MARK_STAGE_EXPIRY is a frame start or nothing. -/
theorem onStageExpiry_cases (place : Nat) (s : State) :
    onStageExpiry place s = s ∨ onStageExpiry place s = onFrameStart s.freeOrder s := by
  unfold onStageExpiry
  split
  · split <;> simp
  · exact .inl rfl

/-- BLINK_TOGGLE is a frame start or nothing. -/
theorem onBlinkToggle_cases (s : State) :
    onBlinkToggle s = s ∨ onBlinkToggle s = onFrameStart s.freeOrder s := by
  unfold onBlinkToggle
  split <;> simp

/-- An event keeps what each of the part's operations keeps: the closure principle of the machine. -/
theorem exec_keeps {P : State → Prop}
    (hstart : ∀ x s, P s → P (onTransferStart x s))
    (hword : ∀ x w s, P s → P (onWordSampled x w s))
    (hend : ∀ x k s, P s → P (onTransferEnd x k s))
    (hgrant : ∀ s x, P s → s.arbiterPick = some x → P (grantTo x s))
    (hstep : ∀ s t, P s → engineStep s = .next t → P t)
    (hpower : ∀ osel tsel s, P s → P (onPowerOnReset osel tsel s))
    (hreset : ∀ s, P s → P (onResetAssertion s))
    (hclear : ∀ o s, P s → P (onClearComplete o s))
    (hlock : ∀ o s, P s → P (onLockAchieved o s))
    (hloss : ∀ s, P s → P (onLossOfLock s))
    (hframe : ∀ o s, P s → P (onFrameStart o s))
    (hretry : ∀ x s, P s → P (onRetryExpiry x s))
    (hport : ∀ x s, P s → P (onPortReset x s))
    (hrelease : ∀ x s, P s → P (onPortResetRelease x s))
    (hwake : ∀ s, P s → P (onWakePulse s))
    (hentry : ∀ s, P s → P (onStandbyEntry s))
    (hexit : ∀ s, P s → P (onStandbyExit s))
    (i : Instr) (hs : P s) (h : exec i s = .next t) : P t := by
  have harb : ∀ s, P s → P s.arbitrate := State.arbitrate_keeps hgrant
  have hsend : ∀ x ws s, P s → P (sendWords x ws s) := by
    intro x ws s hs
    unfold sendWords
    split
    · exact hs
    · refine harb _ (hend _ _ _ ?_)
      generalize hu : onTransferStart x s = u
      have hPu : P u := hu ▸ hstart x s hs
      clear hu
      induction ws generalizing u with
      | nil => exact hPu
      | cons w ws ih => exact ih _ (harb _ (hword _ _ _ hPu))
  have hnext : ∀ {u : State}, P u → (.next u : Host.Outcome State Fault Refusal) = .next t → P t :=
    fun hu e => Host.Outcome.next.inj e ▸ hu
  have hengine : ∀ s, P s → thenArbitrate (engineStep s) = .next t → P t := fun s hs e => by
    obtain ⟨u, hu, rfl⟩ := thenArbitrate_next e
    exact harb _ (hstep s u hs hu)
  cases hc : i.command with
  | some xc =>
    obtain ⟨x, c⟩ := xc
    rw [exec_command hc] at h
    exact sendCommand_keeps (fun ws s => hsend x ws s) hgrant hstep hs h
  | none =>
    cases i
    all_goals try (simp only [Instr.command, reduceCtorEq] at hc; done)
    case powerOnReset osel tsel => exact hnext (hpower osel tsel s hs) h
    case planeClearComplete o => exact hnext (harb _ (hclear o s hs)) h
    case clockLockAchieved o => exact hnext (harb _ (hlock o s hs)) h
    case lossOfLock => exact hnext (hloss s hs) h
    case frameStart o => exact hnext (harb _ (hframe o s hs)) h
    case markStageExpiry place =>
      refine hnext (harb _ ?_) h
      obtain hx | hx := onStageExpiry_cases place s <;> rw [hx]
      exacts [hs, hframe _ s hs]
    case blinkToggle =>
      refine hnext (harb _ ?_) h
      obtain hx | hx := onBlinkToggle_cases s <;> rw [hx]
      exacts [hs, hframe _ s hs]
    case transferStart x => exact hnext (hstart x s hs) h
    case transferEnd x k => exact hnext (harb _ (hend x k s hs)) h
    case fetch x n => exact hnext (hsend x _ s hs) h
    case faults x => exact hnext (hsend x _ s hs) h
    case clear x => exact hnext (hsend x _ s hs) h
    case mode x cls m => exact hnext (hsend x _ s hs) h
    case ident x => exact hnext (hsend x _ s hs) h
    case arbiterGrant => exact hnext (harb s hs) h
    case commandCompletion =>
      simp only [exec, execCompletion] at h
      split at h
      · exact hengine s hs h
      · exact hnext hs h
    case retryExpiry x => exact hnext (harb _ (hretry x s hs)) h
    case portReset x => exact hnext (harb _ (hport x s hs)) h
    case portResetRelease x => exact hnext (hrelease x s hs) h
    case wakeClearPulse => exact hnext (harb _ (hwake s hs)) h
    case standbyEntry => exact hnext (hentry s hs) h
    case standbyExit => exact hnext (hexit s hs) h
    case wordSampled x w => exact hnext (harb _ (hword x w s hs)) h
    case cellAccess => exact hengine s hs h
    case resetAssertion => exact hnext (hreset s hs) h

/-- The arbiter's searches refuse nothing. -/
theorem thenArbitrate_not_refused {o : Host.Outcome State Fault Refusal} {r : Refusal}
    (h : o ≠ .refused r) : thenArbitrate o ≠ .refused r := by
  cases o <;> simp_all [thenArbitrate]

/-- No event is refused: every row of the table has its meaning. -/
theorem exec_not_refused (i : Instr) (s : State) (r : Refusal) : exec i s ≠ .refused r := by
  cases hc : i.command with
  | some xc =>
    obtain ⟨x, c⟩ := xc
    rw [exec_command hc]
    simp only [sendCommand]
    split
    · exact thenArbitrate_not_refused (engineSteps_not_refused _ _)
    · simp
  | none =>
    cases i
    all_goals first
      | (simp only [Instr.command, reduceCtorEq] at hc; done)
      | exact thenArbitrate_not_refused engineStep_not_refused
      | (intro h; cases h)
      | skip
    case commandCompletion =>
      simp only [exec, execCompletion]
      split
      · exact thenArbitrate_not_refused engineStep_not_refused
      · simp

end Sys2Proof.Machine
end

