-- ==== Sys2Proof/Laws/Operations.lean ====
section
/-! SUPPORT. What the shared operations of the engine's commands do, one lemma each: reply words, refusals,
the mark table, the stack and the extents. -/

namespace Sys2Proof.Machine

/-! ### Reply words (R89) -/

/-- Reply words with places reserved for them all join at the tail and take their places. -/
theorem PortState.appendReply_eq (p : PortState) (ws : List Word) (h : ws.length ≤ p.reserved) :
    p.appendReply ws =
      { p with reply := p.reply ++ ws, reserved := p.reserved - ws.length } := by
  induction ws generalizing p with
  | nil => simp [PortState.appendReply]
  | cons w ws ih =>
    simp only [List.length_cons] at h
    have hr : p.reserved ≠ 0 := by omega
    have hstep : p.appendReserved w =
        { p with reply := p.reply ++ [w], reserved := p.reserved - 1 } := by
      simp [PortState.appendReserved, hr]
    have := ih (p.appendReserved w) (by rw [hstep]; show ws.length ≤ p.reserved - 1; omega)
    rw [PortState.appendReply, List.foldl_cons, ← PortState.appendReply, this, hstep]
    simp [Nat.sub_sub, Nat.add_comm]

/-- A reply word takes a reserved place or goes nowhere, so the room stays as it was. -/
theorem PortState.appendReserved_room (p : PortState) (w : Word) :
    (p.appendReserved w).reply.length + (p.appendReserved w).reserved =
      p.reply.length + p.reserved := by
  unfold PortState.appendReserved
  split
  · rfl
  · simp
    omega

/-! ### Refusals (R92, R195) -/

/-- A refusal sets the last refusal code under every mode. -/
theorem PortState.refuse_lastRefusal (p : PortState) (code : RefusalCode) :
    (p.refuse code).faults.lastRefusal = some code := rfl

/-- A refusal changes the fault record, and the queue under LATCH. -/
theorem PortState.refuse_frame (p : PortState) (code : RefusalCode) :
    p.refuse code = { p with faults := (p.refuse code).faults, queue := (p.refuse code).queue } := by
  cases hm : p.faults.refuseMode <;> simp [PortState.refuse, FaultMode.act, hm]

/-- A refusal changes its port alone. -/
theorem State.refuse_eq (s : State) (x : Port) (code : RefusalCode) :
    s.refuse x code = s.setPort x ((s.port x).refuse code) := rfl

/-! ### The mark table (R72, R73) -/

/-- A cell that a record covers, as bounds. -/
theorem Mark.covers_iff (m : Mark) (a : Nat) :
    m.covers a = true ↔ m.start ≤ a ∧ a < m.start + m.length := by
  simp [Mark.covers]

/-- What the mark event leaves in the table: the new record, and old ones that do not meet the field. -/
theorem mem_recordMark {marks : List Mark} {a n : Nat} {m k : Mark}
    (h : k ∈ recordMark marks a n m) : k = m ∨ (k ∈ marks ∧ k.meets a n = false) := by
  simp only [recordMark, List.mem_append, List.mem_singleton] at h
  rcases h with h | h
  · have : k ∈ marks.filter fun r => !r.meets a n := by
      split at h
      · exact List.mem_of_mem_tail h
      · exact h
    simp only [List.mem_filter, Bool.not_eq_true'] at this
    exact .inr this
  · exact .inl h

/-- The mark event keeps the table within its 192 records. -/
theorem recordMark_length (marks : List Mark) (a n : Nat) (m : Mark)
    (h : marks.length ≤ Config.maxMarks) : (recordMark marks a n m).length ≤ Config.maxMarks := by
  have hk := List.length_filter_le (fun r : Mark => !r.meets a n) marks
  have hmax : Config.maxMarks = 192 := rfl
  simp only [recordMark]
  split
  · rw [List.length_append, List.length_tail, List.length_singleton]
    omega
  · rw [List.length_append, List.length_singleton]
    omega

/-! ### The stack (R36) -/

/-- Putting an element behind another that is there. -/
theorem insertBehind_append (p q : PaneId) (front back : List PaneId) (h : q ∉ front) :
    insertBehind p q (front ++ q :: back) = front ++ q :: p :: back := by
  induction front with
  | nil => simp [insertBehind]
  | cons r front ih =>
    simp only [List.mem_cons, not_or] at h
    simp [insertBehind, Ne.symm h.1, ih h.2]

/-! ### Rows and lines (R41) -/

/-- A position round a ring that is not empty lies in it. -/
theorem PaneView.ringLine_lt (v : PaneView) (k : Nat) (h : v.frozen < v.ringLines) :
    v.frozen ≤ v.ringLine k ∧ v.ringLine k < v.ringLines := by
  have hpos : 0 < v.ringSize := by unfold PaneView.ringSize; omega
  have := Nat.mod_lt ((v.top - v.frozen) + k) hpos
  unfold PaneView.ringLine
  unfold PaneView.ringSize at *
  omega

/-- A column of a line lies inside the region. -/
theorem PaneView.lineAddr_lt (v : PaneView) (line col : Nat) (hl : line < v.ringLines)
    (hc : col < v.pitch) :
    v.base ≤ v.lineAddr line col ∧ v.lineAddr line col < v.regionEnd := by
  have : (line + 1) * v.pitch ≤ v.ringLines * v.pitch := Nat.mul_le_mul_right _ hl
  rw [Nat.add_mul, Nat.one_mul, Nat.mul_comm v.ringLines] at this
  unfold PaneView.lineAddr PaneView.regionEnd
  omega

/-- The cells of a rectangle are its columns and rows. -/
theorem mem_rectCells {col row w h : Nat} {e : Nat × Nat} :
    e ∈ rectCells col row w h ↔
      (col ≤ e.1 ∧ e.1 < col + w) ∧ row ≤ e.2 ∧ e.2 < row + h := by
  obtain ⟨a, b⟩ := e
  simp only [rectCells, List.mem_flatMap, List.mem_map, List.mem_range, Prod.mk.injEq]
  constructor
  · rintro ⟨j, hj, i, hi, rfl, rfl⟩
    omega
  · rintro ⟨⟨h1, h2⟩, h3, h4⟩
    exact ⟨b - row, by omega, a - col, by omega, by omega, by omega⟩

end Sys2Proof.Machine
end

