-- ==== Sys2Proof/Laws/PerInstr.lean ====
section
/-! SUPPORT. One lemma per row of the table: the family Framing says that a command's transfer begins with
a header of an engine command and has a word count its port allows (R177, R206). -/

namespace Sys2Proof.Laws.Framing

/-- The transfer of a row that is an engine command, with its operands in their fields, is framed well. -/
def Statement (i : Instr) : Prop :=
  ∀ (x : Port) (c : Command), i.command = some (x, c) → c.WellFormed = true →
    ∃ h args, encodeCommand c = h :: args ∧ isService (headerCode h) = false ∧
      countAllowed (headerCode h) (args.length + 1) = true

/-- A row that is no engine command has nothing to frame. -/
theorem of_none {i : Instr} (h : i.command = none) : Statement i :=
  fun x c hc => absurd (h.symm.trans hc) (by simp)

/-- A row is framed well when its command's header and count are. -/
theorem of_some {i : Instr} {y : Port} {d : Command} (h : i.command = some (y, d))
    {code index options : Nat} {args : List Nat} (row : CodeRow)
    (hd : commandContents d = header code index options :: args)
    (hrow : codeRow (code % 64) = some row) (hs : row.service = false)
    (hlen : d.WellFormed = true → row.minWords ≤ args.length + 1 ∧ args.length + 1 ≤ row.maxWords) :
    Statement i := by
  intro x c hc hw
  rw [h, Option.some.injEq, Prod.mk.injEq] at hc
  obtain ⟨rfl, rfl⟩ := hc
  refine ⟨mkWord (header code index options), args.map mkWord, ?_, ?_, ?_⟩
  · rw [encodeCommand, hd, List.map_cons]
  · rw [headerCode_mkWord_header, isService, hrow]; exact hs
  · rw [headerCode_mkWord_header, countAllowed, hrow, List.length_map]
    simpa using hlen hw

theorem powerOnReset osel tsel : Statement (.powerOnReset osel tsel) := of_none rfl

theorem planeClearComplete order : Statement (.planeClearComplete order) := of_none rfl

theorem clockLockAchieved order : Statement (.clockLockAchieved order) := of_none rfl

theorem lossOfLock : Statement .lossOfLock := of_none rfl

theorem frameStart order : Statement (.frameStart order) := of_none rfl

theorem markStageExpiry place : Statement (.markStageExpiry place) := of_none rfl

theorem blinkToggle : Statement .blinkToggle := of_none rfl

theorem transferStart x : Statement (.transferStart x) := of_none rfl

theorem transferEnd x partialBits : Statement (.transferEnd x partialBits) := of_none rfl

theorem fetch x words : Statement (.fetch x words) := of_none rfl

theorem faults x : Statement (.faults x) := of_none rfl

theorem clear x : Statement (.clear x) := of_none rfl

theorem mode x cls newMode : Statement (.mode x cls newMode) := of_none rfl

theorem ident x : Statement (.ident x) := of_none rfl

theorem arbiterGrant : Statement .arbiterGrant := of_none rfl

theorem commandCompletion : Statement .commandCompletion := of_none rfl

theorem define x p g : Statement (.define x p g) :=
  of_some rfl ⟨8, 12, 12, false⟩ rfl (by decide) rfl fun _ => by simp

theorem showPane x p : Statement (.showPane x p) :=
  of_some rfl ⟨9, 1, 1, false⟩ rfl (by decide) rfl fun _ => by simp

theorem hidePane x p : Statement (.hidePane x p) :=
  of_some rfl ⟨10, 1, 1, false⟩ rfl (by decide) rfl fun _ => by simp

theorem dropPane x p : Statement (.dropPane x p) :=
  of_some rfl ⟨11, 1, 1, false⟩ rfl (by decide) rfl fun _ => by simp

theorem claim x p : Statement (.claim x p) :=
  of_some rfl ⟨12, 1, 1, false⟩ rfl (by decide) rfl fun _ => by simp

theorem release x p : Statement (.release x p) :=
  of_some rfl ⟨13, 1, 1, false⟩ rfl (by decide) rfl fun _ => by simp

theorem raise x p : Statement (.raise x p) :=
  of_some rfl ⟨14, 1, 1, false⟩ rfl (by decide) rfl fun _ => by simp

theorem lower x p : Statement (.lower x p) :=
  of_some rfl ⟨15, 1, 1, false⟩ rfl (by decide) rfl fun _ => by simp

theorem behind x p q : Statement (.behind x p q) :=
  of_some rfl ⟨16, 2, 2, false⟩ rfl (by decide) rfl fun _ => by simp

theorem setTop x p top fine : Statement (.setTop x p top fine) :=
  of_some rfl ⟨17, 3, 3, false⟩ rfl (by decide) rfl fun _ => by simp

theorem roll x p k clear : Statement (.roll x p k clear) :=
  of_some rfl ⟨18, 2, 2, false⟩ rfl (by decide) rfl fun _ => by simp

theorem log x p attr codes : Statement (.log x p attr codes) :=
  of_some rfl ⟨19, 2, 126, false⟩ rfl (by decide) rfl fun hw => by
    simp [Command.WellFormed] at hw; simp; omega

theorem place x p row col attr codes : Statement (.place x p row col attr codes) :=
  of_some rfl ⟨20, 5, 128, false⟩ rfl (by decide) rfl fun hw => by
    simp [Command.WellFormed] at hw; simp; omega

theorem sweep x p row col w h code attr override :
    Statement (.sweep x p row col w h code attr override) :=
  of_some rfl ⟨21, 7, 7, false⟩ rfl (by decide) rfl fun _ => by simp

theorem shift x p srow scol drow dcol w h : Statement (.shift x p srow scol drow dcol w h) :=
  of_some rfl ⟨22, 7, 7, false⟩ rfl (by decide) rfl fun _ => by simp

theorem tint x p row col w h attr mask : Statement (.tint x p row col w h attr mask) :=
  of_some rfl ⟨23, 7, 7, false⟩ rfl (by decide) rfl fun _ => by simp

theorem tick x p row col codes digit arrow : Statement (.tick x p row col codes digit arrow) :=
  of_some rfl ⟨24, 4, 19, false⟩ rfl (by decide) rfl fun hw => by
    simp [Command.WellFormed] at hw; simp; omega

theorem readCells x p row col n : Statement (.readCells x p row col n) :=
  of_some rfl ⟨25, 4, 4, false⟩ rfl (by decide) rfl fun _ => by simp

theorem wait x : Statement (.wait x) :=
  of_some rfl ⟨26, 1, 1, false⟩ rfl (by decide) rfl fun _ => by simp

theorem glyph x code rows : Statement (.glyph x code rows) :=
  of_some rfl ⟨28, 10, 10, false⟩ rfl (by decide) rfl fun _ => by simp [rowContents]

theorem patch x slot code rows : Statement (.patch x slot code rows) :=
  of_some rfl ⟨29, 10, 10, false⟩ rfl (by decide) rfl fun _ => by simp [rowContents]

theorem patchRows x slot rows : Statement (.patchRows x slot rows) :=
  of_some rfl ⟨30, 9, 9, false⟩ rfl (by decide) rfl fun _ => by simp [rowContents]

theorem patchCode x slot code : Statement (.patchCode x slot code) :=
  of_some rfl ⟨31, 2, 2, false⟩ rfl (by decide) rfl fun _ => by simp

theorem unpatch x slot : Statement (.unpatch x slot) :=
  of_some rfl ⟨32, 1, 1, false⟩ rfl (by decide) rfl fun _ => by simp

theorem readGlyph x slotOption slot code : Statement (.readGlyph x slotOption slot code) :=
  of_some rfl ⟨33, 2, 2, false⟩ rfl (by decide) rfl fun _ => by simp

theorem palette x i r g b : Statement (.palette x i r g b) :=
  of_some rfl ⟨36, 4, 4, false⟩ rfl (by decide) rfl fun _ => by simp

theorem ramp x dir stage fg bg duration count :
    Statement (.ramp x dir stage fg bg duration count) :=
  of_some rfl ⟨37, 6, 6, false⟩ rfl (by decide) rfl fun _ => by simp

theorem staleColour x i : Statement (.staleColour x i) :=
  of_some rfl ⟨38, 2, 2, false⟩ rfl (by decide) rfl fun _ => by simp

theorem blink x period : Statement (.blink x period) :=
  of_some rfl ⟨39, 2, 2, false⟩ rfl (by decide) rfl fun _ => by simp

theorem cursor x p row col startScan endScan mode :
    Statement (.cursor x p row col startScan endScan mode) :=
  of_some rfl ⟨40, 6, 6, false⟩ rfl (by decide) rfl fun _ => by simp

theorem timing x preset height : Statement (.timing x preset height) :=
  of_some rfl ⟨44, 3, 3, false⟩ rfl (by decide) rfl fun _ => by simp

theorem lock x : Statement (.lock x) :=
  of_some rfl ⟨45, 1, 1, false⟩ rfl (by decide) rfl fun _ => by simp

theorem retryExpiry x : Statement (.retryExpiry x) := of_none rfl

theorem portReset x : Statement (.portReset x) := of_none rfl

theorem portResetRelease x : Statement (.portResetRelease x) := of_none rfl

theorem wakeClearPulse : Statement .wakeClearPulse := of_none rfl

theorem standbyEntry : Statement .standbyEntry := of_none rfl

theorem standbyExit : Statement .standbyExit := of_none rfl

theorem wordSampled x w : Statement (.wordSampled x w) := of_none rfl

theorem cellAccess : Statement .cellAccess := of_none rfl

theorem resetAssertion : Statement .resetAssertion := of_none rfl

/-- Every row of the table is framed well. -/
theorem all (i : Instr) : Statement i := by
  cases i
  case powerOnReset osel tsel => exact powerOnReset osel tsel
  case planeClearComplete order => exact planeClearComplete order
  case clockLockAchieved order => exact clockLockAchieved order
  case lossOfLock => exact lossOfLock
  case frameStart order => exact frameStart order
  case markStageExpiry place => exact markStageExpiry place
  case blinkToggle => exact blinkToggle
  case transferStart x => exact transferStart x
  case transferEnd x partialBits => exact transferEnd x partialBits
  case fetch x words => exact fetch x words
  case faults x => exact faults x
  case clear x => exact clear x
  case mode x cls newMode => exact mode x cls newMode
  case ident x => exact ident x
  case arbiterGrant => exact arbiterGrant
  case commandCompletion => exact commandCompletion
  case define x p g => exact define x p g
  case showPane x p => exact showPane x p
  case hidePane x p => exact hidePane x p
  case dropPane x p => exact dropPane x p
  case claim x p => exact claim x p
  case release x p => exact release x p
  case raise x p => exact raise x p
  case lower x p => exact lower x p
  case behind x p q => exact behind x p q
  case setTop x p top fine => exact setTop x p top fine
  case roll x p k clear => exact roll x p k clear
  case log x p attr codes => exact log x p attr codes
  case place x p row col attr codes => exact place x p row col attr codes
  case sweep x p row col w h code attr override => exact sweep x p row col w h code attr override
  case shift x p srow scol drow dcol w h => exact shift x p srow scol drow dcol w h
  case tint x p row col w h attr mask => exact tint x p row col w h attr mask
  case tick x p row col codes digit arrow => exact tick x p row col codes digit arrow
  case readCells x p row col n => exact readCells x p row col n
  case wait x => exact wait x
  case glyph x code rows => exact glyph x code rows
  case patch x slot code rows => exact patch x slot code rows
  case patchRows x slot rows => exact patchRows x slot rows
  case patchCode x slot code => exact patchCode x slot code
  case unpatch x slot => exact unpatch x slot
  case readGlyph x slotOption slot code => exact readGlyph x slotOption slot code
  case palette x i r g b => exact palette x i r g b
  case ramp x dir stage fg bg duration count => exact ramp x dir stage fg bg duration count
  case staleColour x i => exact staleColour x i
  case blink x period => exact blink x period
  case cursor x p row col startScan endScan mode => exact cursor x p row col startScan endScan mode
  case timing x preset height => exact timing x preset height
  case lock x => exact lock x
  case retryExpiry x => exact retryExpiry x
  case portReset x => exact portReset x
  case portResetRelease x => exact portResetRelease x
  case wakeClearPulse => exact wakeClearPulse
  case standbyEntry => exact standbyEntry
  case standbyExit => exact standbyExit
  case wordSampled x w => exact wordSampled x w
  case cellAccess => exact cellAccess
  case resetAssertion => exact resetAssertion

end Sys2Proof.Laws.Framing
end

