-- ==== Sys2Proof/Laws/Plane.lean ====
section
/-! SUPPORT. The cell plane: a read after a write, and the canonical form every write keeps. -/

namespace Sys2Proof.Machine

/-! ### The canonical form -/

/-- Every address of the list is above `a`. -/
def Plane.Above (a : Nat) (m : Plane) : Prop := ∀ e ∈ m, a < e.1

/-- The canonical form as a recursion: the head below the rest, no head equal to the reset cell. -/
theorem Plane.wf_cons (b : Nat) (d : Cell) (m : Plane) :
    Plane.wf ((b, d) :: m) = true ↔ d ≠ resetCell ∧ Plane.Above b m ∧ Plane.wf m = true := by
  simp only [Plane.wf, Plane.Above, List.map_cons, List.pairwise_cons, List.all_cons,
    Bool.and_eq_true, decide_eq_true_eq, List.mem_map, forall_exists_index, and_imp,
    forall_apply_eq_imp_iff₂, ne_eq]
  tauto

@[simp] theorem Plane.wf_nil : Plane.wf [] = true := rfl

/-- An address below every listed one reads as the reset cell. -/
theorem Plane.read_above {m : Plane} {a : Nat} (h : Plane.Above a m) : m.read a = resetCell := by
  induction m with
  | nil => rfl
  | cons e m ih =>
    have he := h e (by simp)
    rw [Plane.read, if_neg (by omega)]
    exact ih fun f hf => h f (by simp [hf])

/-- What a write lists: the old entries and the new one. -/
theorem Plane.mem_write {m : Plane} {a : Nat} {c : Cell} {e : Nat × Cell}
    (h : e ∈ m.write a c) : e ∈ m ∨ e = (a, c) := by
  induction m with
  | nil => simp only [Plane.write] at h; split at h <;> simp_all
  | cons f m ih =>
    obtain ⟨b, d⟩ := f
    simp only [Plane.write] at h
    split at h
    · split at h <;> simp_all
      tauto
    · split at h
      · split at h <;> simp_all
        tauto
      · rcases List.mem_cons.mp h with h | h
        · simp [h]
        · rcases ih h with h | h <;> simp [h]

/-- A write keeps the canonical form. -/
theorem Plane.write_wf {m : Plane} (a : Nat) (c : Cell) (h : m.wf = true) :
    (m.write a c).wf = true := by
  induction m with
  | nil => simp only [Plane.write]; split <;> simp_all [Plane.wf_cons, Plane.Above]
  | cons e m ih =>
    obtain ⟨b, d⟩ := e
    obtain ⟨hd, ha, hm⟩ := (Plane.wf_cons b d m).mp h
    simp only [Plane.write]
    split
    · rename_i hab
      split
      · exact h
      · rename_i hc
        refine (Plane.wf_cons _ _ _).mpr ⟨hc, ?_, h⟩
        intro f hf
        rcases List.mem_cons.mp hf with rfl | hf
        · exact hab
        · exact hab.trans (ha f hf)
    · split
      · rename_i hab
        split
        · exact hm
        · rename_i hc
          exact (Plane.wf_cons _ _ _).mpr ⟨hc, hab ▸ ha, hm⟩
      · rename_i hlt hne
        refine (Plane.wf_cons _ _ _).mpr ⟨hd, ?_, ih hm⟩
        intro f hf
        rcases Plane.mem_write hf with hf | rfl
        · exact ha f hf
        · show b < a
          omega

/-- A write at an address of the plane lists no address past it. -/
theorem Plane.write_range {m : Plane} {a : Nat} (c : Cell) (n : Nat) (ha : a < n)
    (h : ∀ e ∈ m, e.1 < n) : ∀ e ∈ m.write a c, e.1 < n := fun e he => by
  rcases Plane.mem_write he with he | rfl
  · exact h e he
  · exact ha

/-! ### A read after a write -/

/-- The cell written is the cell read. -/
theorem Plane.read_write_same {m : Plane} (a : Nat) (c : Cell) (h : m.wf = true) :
    (m.write a c).read a = c := by
  induction m with
  | nil => simp only [Plane.write]; split <;> simp_all [Plane.read]
  | cons e m ih =>
    obtain ⟨b, d⟩ := e
    obtain ⟨-, ha, hm⟩ := (Plane.wf_cons b d m).mp h
    simp only [Plane.write]
    split
    · rename_i hab
      split
      · rename_i hc
        rw [hc, Plane.read, if_neg (by omega)]
        exact Plane.read_above fun f hf => hab.trans (ha f hf)
      · simp [Plane.read]
    · split
      · rename_i hab
        split
        · rename_i hc
          rw [hc]
          exact Plane.read_above (hab ▸ ha)
        · simp [Plane.read]
      · rename_i hne
        rw [Plane.read, if_neg (by omega)]
        exact ih hm

/-- A write leaves every other cell. -/
theorem Plane.read_write_other {m : Plane} {a b : Nat} (c : Cell) (hab : b ≠ a) :
    (m.write a c).read b = m.read b := by
  induction m with
  | nil => simp only [Plane.write]; split <;> simp [Plane.read, hab.symm]
  | cons e m ih =>
    obtain ⟨k, d⟩ := e
    simp only [Plane.write]
    split
    · split <;> simp [Plane.read, hab.symm]
    · split
      · rename_i hak
        split
        · rw [Plane.read, if_neg (by omega)]
        · simp [Plane.read, hak, hak ▸ hab.symm]
      · simp only [Plane.read, ih]

/-- Two planes in canonical form that read alike everywhere are the same list. -/
theorem Plane.ext_read {m n : Plane} (hm : m.wf = true) (hn : n.wf = true)
    (h : ∀ a, m.read a = n.read a) : m = n := by
  induction m generalizing n with
  | nil =>
    cases n with
    | nil => rfl
    | cons e n =>
      obtain ⟨b, d⟩ := e
      have hb := h b
      simp only [Plane.read] at hb
      exact absurd hb.symm ((Plane.wf_cons b d n).mp hn).1
  | cons e m ih =>
    obtain ⟨b, d⟩ := e
    obtain ⟨hd, hab, hm'⟩ := (Plane.wf_cons b d m).mp hm
    cases n with
    | nil =>
      have hb := h b
      simp only [Plane.read] at hb
      exact absurd hb hd
    | cons f n =>
      obtain ⟨k, g⟩ := f
      obtain ⟨hg, hkn, hn'⟩ := (Plane.wf_cons k g n).mp hn
      have hbk : b = k := by
        rcases Nat.lt_trichotomy b k with hlt | heq | hgt
        · have hb := h b
          rw [Plane.read, if_pos rfl, Plane.read_above] at hb
          · exact absurd hb hd
          · intro e he
            rcases List.mem_cons.mp he with rfl | he
            · exact hlt
            · exact hlt.trans (hkn e he)
        · exact heq
        · have hk := h k
          rw [Plane.read_above, Plane.read, if_pos rfl] at hk
          · exact absurd hk.symm hg
          · intro e he
            rcases List.mem_cons.mp he with rfl | he
            · exact hgt
            · exact hgt.trans (hab e he)
      subst hbk
      have hdg : d = g := by simpa [Plane.read] using h b
      subst hdg
      rw [ih hm' hn' fun a => ?_]
      by_cases hab' : b = a
      · subst hab'
        rw [Plane.read_above hab, Plane.read_above hkn]
      · simpa [Plane.read, hab'] using h a

/-! ### The same of the state -/

/-- The cell a code write stored. -/
theorem State.cell_writeCell_same (s : State) (a : Nat) (c : Cell) (h : s.plane.wf = true) :
    (s.writeCell a c).cell a = c := Plane.read_write_same a c h

/-- A code write leaves every other cell. -/
theorem State.cell_writeCell_other (s : State) {a b : Nat} (c : Cell) (h : b ≠ a) :
    (s.writeCell a c).cell b = s.cell b := Plane.read_write_other c h

/-- The cell an attribute write leaves: its code, the new attributes. -/
theorem State.cell_writeAttr_same (s : State) (a : Nat) (t : Attr) (h : s.plane.wf = true) :
    (s.writeAttr a t).cell a = { s.cell a with attr := t } := Plane.read_write_same a _ h

/-- An attribute write leaves every other cell. -/
theorem State.cell_writeAttr_other (s : State) {a b : Nat} (t : Attr) (h : b ≠ a) :
    (s.writeAttr a t).cell b = s.cell b := Plane.read_write_other _ h

/-- The cell a field's code write leaves: the new code, its attributes (R6). -/
theorem State.cell_writeFieldCode_same (s : State) (a : Nat) (k : Code) (h : s.plane.wf = true) :
    (s.writeFieldCode a k).cell a = { s.cell a with code := k } := Plane.read_write_same a _ h

/-- A field's code write leaves every other cell. -/
theorem State.cell_writeFieldCode_other (s : State) {a b : Nat} (k : Code) (h : b ≠ a) :
    (s.writeFieldCode a k).cell b = s.cell b := Plane.read_write_other _ h

/-- Each write keeps the canonical form of the plane. -/
theorem State.writes_keep_wf (s : State) (a : Nat) (c : Cell) (t : Attr) (k : Code)
    (h : s.plane.wf = true) :
    (s.writeCell a c).plane.wf = true ∧ (s.writeAttr a t).plane.wf = true ∧
      (s.writeFieldCode a k).plane.wf = true :=
  ⟨Plane.write_wf a c h, Plane.write_wf a _ h, Plane.write_wf a _ h⟩

end Sys2Proof.Machine
end

