-- ==== Sys2Proof/Laws/Scan.lean ====
section
/-! SUPPORT. What a run of events and scan-out can do, said once: runs one after another, which state a pixel
is fetched in, and how the law of pictures goes on from step to step. -/

namespace Sys2Proof.Machine

variable {s t u live : State}

/-! ### Runs -/

/-- A run of no events leaves the state as it is. -/
@[simp] theorem runEvents_nil : runEvents [] s = .next s := rfl

/-- A run goes on from the state its first event leaves. -/
theorem runEvents_cons {i : Instr} {rest : List Instr} (h : exec i s = .next t) :
    runEvents (i :: rest) s = runEvents rest t := by
  simp only [runEvents, h]

/-- What it means that a run that begins with an event answers a state. -/
theorem runEvents_cons_next {i : Instr} {rest : List Instr} (h : runEvents (i :: rest) s = .next u) :
    ∃ t, exec i s = .next t ∧ runEvents rest t = .next u := by
  cases he : exec i s <;> simp_all [runEvents]

/-- Two runs one after another are one run. -/
theorem runEvents_append {front : List Instr} (back : List Instr) (h : runEvents front s = .next t) :
    runEvents (front ++ back) s = runEvents back t := by
  induction front generalizing s with
  | nil => simp only [runEvents] at h; cases h; rfl
  | cons i rest ih =>
    obtain ⟨v, hv, hr⟩ := runEvents_cons_next h
    exact (runEvents_cons hv).trans (ih hr)

/-! ### The state of a fetch (R169, R171) -/

/-- A pixel is fetched in `live` when that is a state of the same picture, with frames running in both. -/
theorem State.fetchState_same (hs : s.framesRun = true) (hl : live.framesRun = true)
    (hc : live.frameCount = s.frameCount) : s.fetchState live = live := by
  simp [State.fetchState, State.fetchedIn, hs, hl, hc]

/-- A state in which no frames run is never the state of a fetch. -/
theorem State.fetchState_blank (h : live.framesRun = false) : s.fetchState live = s := by
  simp [State.fetchState, State.fetchedIn, h]

/-- A state of another picture is never the state of a fetch. -/
theorem State.fetchState_other (h : live.frameCount ≠ s.frameCount) : s.fetchState live = s := by
  simp [State.fetchState, State.fetchedIn, h]

/-- A cell fetched at the output is fetched in the state of the output. -/
@[simp] theorem State.fetchState_self : s.fetchState s = s := by
  simp [State.fetchState]

/-- A pixel depends on the state offered for its fetch only through the state it is fetched in. -/
theorem State.pixel_congr (h : s.fetchState live = s.fetchState u) (x y : Nat) :
    s.pixel live x y = s.pixel u x y := by
  simp only [State.pixel, h]

/-! ### Pictures -/

/-- Every state is in one picture with itself. -/
theorem State.PictureLaw.refl (s : State) : s.PictureLaw s :=
  ⟨Nat.le_refl _, fun h h' => absurd (h.symm.trans h') (by simp), fun _ _ =>
    ⟨rfl, rfl, rfl, rfl, rfl, rfl, rfl, rfl⟩⟩

/-- The law of pictures goes on from one step to the next. -/
theorem State.PictureLaw.trans (h : s.PictureLaw t) (h' : t.PictureLaw u) : s.PictureLaw u := by
  obtain ⟨hle, hrun, hsame⟩ := h
  obtain ⟨hle', hrun', hsame'⟩ := h'
  refine ⟨hle.trans hle', fun hs hu => ?_, fun hc hu => ?_⟩
  · cases ht : t.framesRun
    · exact lt_of_le_of_lt hle (hrun' ht hu)
    · exact lt_of_lt_of_le (hrun hs ht) hle'
  · have hst : s.frameCount = t.frameCount := by omega
    have htu : t.frameCount = u.frameCount := by omega
    cases ht : t.framesRun
    · exact absurd (hrun' ht hu) (by omega)
    · obtain ⟨h1, h2, h3, h4, h5, h6, h7, h8⟩ := hsame hst ht
      obtain ⟨g1, g2, g3, g4, g5, g6, g7, g8⟩ := hsame' htu hu
      exact ⟨h1.trans g1, h2.trans g2, h3.trans g3, h4.trans g4, h5.trans g5, h6.trans g6,
        h7.trans g7, h8.trans g8⟩

end Sys2Proof.Machine
end

