-- ==== Sys2Proof/Tests/Slice0.lean ====
section
/-! SUPPORT. The model's own tests: ill-formed terms the checks of WellFormed refuse, results worked out
by hand from the spec's rules, and for every obligation with hypotheses a state and operands that meet
them (`witness_<Name>`). -/

namespace Sys2Proof.Tests

set_option Elab.async false

open Sys2Proof Sys2Proof.Machine

/-! ### States and operands the tests use -/

/-- Attributes fg 7, bg 0, no flag. -/
def plain : Attr := ⟨7, 0, false, false, false, false, false⟩

/-- A cell of plain attributes. -/
def letter (c : Code) : Cell := ⟨c, plain⟩

/-- Attributes with every field other than reset's, guard on. -/
def loud : Attr := ⟨3, 12, true, true, true, true, true⟩

def viewOf (st : PaneState) (w h base pitch ringLines frozen top : Nat) : PaneView :=
  ⟨st, false, 2, 1, w, h, base, pitch, ringLines, frozen, top, 0, none⟩

/-- Pane 1: 4 by 3 at screen (2, 1), a ring of 3 lines below one frozen row, its pitch above its width. -/
def viewOne : PaneView := viewOf .shown 4 3 0 5 4 1 2

/-- Pane 2: all its rows frozen. -/
def viewTwo : PaneView := viewOf .hidden 2 2 100 2 2 2 2

/-- Pane 3: pinned. -/
def viewThree : PaneView := viewOf .shown 1 1 32766 2 1 0 0

/-- Frames run; port A owns panes 1 and 3, port B pane 2; pane 4 is held for port C. -/
def ready : State :=
  { State.reset with
    phase := .running
    clock := .locked
    panes := (((State.reset.panes.set 1 ⟨viewOne, some .a, none, false, resetCell⟩).set 2
      ⟨viewTwo, some .b, none, false, resetCell⟩).set 3
      ⟨viewThree, some .a, none, true, letter 46⟩).set 4 ⟨PaneView.atReset, none, some .c, false, resetCell⟩
    shownPanes := (State.reset.shownPanes.set 1 viewOne).set 3 viewThree
    stack := [3, 0, 1, 2, 4, 5, 6, 7, 8, 9, 10, 11, 12, 13, 14, 15]
    shownStack := [3, 0, 1, 2, 4, 5, 6, 7, 8, 9, 10, 11, 12, 13, 14, 15] }

/-- `ready` with text in pane 1: the top row of its scrolling area is line 2, cells 10 to 14. -/
def written : State :=
  { ready with
    plane := [(0, letter 65), (1, ⟨66, loud⟩), (10, letter 49), (11, letter 46), (12, letter 53)]
    marks := [⟨11, 2, .down, 1, 4⟩] }

/-- Port A changed. -/
def withA (f : PortState → PortState) (s : State) : State := s.updPort .a f

/-- Port A has an open transfer with its select line low. -/
def opened (o : OpenTransfer) (s : State) : State :=
  withA (fun p => { p with selLow := true, openT := some o }) s

/-- A transfer that has shifted nothing yet. -/
def fresh : OpenTransfer := ⟨none, none, 0, 0, false, false, [], [], mkWord 128, mkWord 2048, false⟩

/-- The transfer of words as port A's queue holds it. -/
def waitWords : List Word := encodeCommand .wait

/-- A command in flight for port A on pane 1. -/
def flying (todo : List Micro) (s : State) : State :=
  { s with flight := some ⟨.a, waitWords, 1, todo, none, []⟩ }

/-- The clock stopped in standby. -/
def asleep : State := { ready with standby := true, clock := .stopped }

/-- A check of the next state; a fault or a refusal fails it. -/
def after (o : Host.Outcome State Fault Refusal) (f : State → Bool) : Bool :=
  match o with
  | .next t => f t
  | .fault _ => false
  | .refused _ => false

/-- The row pairs of a bitmap whose first pair has only pixel 0 of row 0 and pixel 6 of row 1. -/
def corner : RowPairs := #v[16386, 0, 0, 0, 0, 0, 0, 0]

def smallGeometry : Geometry := ⟨319, 179, 320, 2, 200, 320, 3, 1, 31, 32, plain, true⟩

/-! ### Ill-formed terms, one for each check of WellFormed -/

theorem test_geometry_fields_are_checked :
    ([{ smallGeometry with originCol := 512 }, { smallGeometry with originRow := 512 },
      { smallGeometry with width := 512 }, { smallGeometry with height := 512 },
      { smallGeometry with base := 32768 }, { smallGeometry with pitch := 512 },
      { smallGeometry with ringLines := 0 }, { smallGeometry with ringLines := 32769 },
      { smallGeometry with frozen := 512 }, { smallGeometry with underline := 32 }].all
        fun g => !(Command.define 0 g).WellFormed) = true := by decide

theorem test_scroll_fields_are_checked :
    ([.setTop 0 32768 0, .setTop 0 0 16, .roll 0 (-16385) true, .roll 0 16384 true,
      .log 0 plain (List.replicate 125 65)].all fun c => !Command.WellFormed c) = true := by
  decide +kernel

theorem test_cell_fields_are_checked :
    ([.place 0 512 0 plain [65], .place 0 0 512 plain [65], .place 0 0 0 plain [],
      .place 0 0 0 plain (List.replicate 125 65), .sweep 0 512 0 1 1 65 plain false,
      .sweep 0 0 512 1 1 65 plain false, .sweep 0 0 0 512 1 65 plain false,
      .sweep 0 0 0 1 512 65 plain false, .shift 0 512 0 0 0 1 1, .shift 0 0 512 0 0 1 1,
      .shift 0 0 0 512 0 1 1, .shift 0 0 0 0 512 1 1, .shift 0 0 0 0 0 512 1,
      .shift 0 0 0 0 0 1 512, .readCells 0 512 0 1, .readCells 0 0 512 1,
      .readCells 0 0 0 512].all fun c => !Command.WellFormed c) = true := by
  decide +kernel

theorem test_tint_and_tick_fields_are_checked :
    ([.tint 0 512 0 1 1 plain ⟨true, false, false, false, false, false, false⟩,
      .tint 0 0 512 1 1 plain ⟨true, false, false, false, false, false, false⟩,
      .tint 0 0 0 512 1 plain ⟨true, false, false, false, false, false, false⟩,
      .tint 0 0 0 1 512 plain ⟨true, false, false, false, false, false, false⟩,
      .tick 0 512 0 [65] false false, .tick 0 0 512 [65] false false, .tick 0 0 0 [] false false,
      .tick 0 0 0 (List.replicate 17 65) false false].all fun c => !Command.WellFormed c) = true := by
  decide

theorem test_setting_fields_are_checked :
    ([.palette 0 256 0 0, .palette 0 0 256 0, .palette 0 0 0 256, .ramp 0 0 .keep .keep 256 1,
      .ramp 0 0 .keep .keep 1 8, .blink 256, .cursor 0 512 0 0 0 1, .cursor 0 0 512 0 0 1,
      .cursor 0 0 0 16 0 1, .cursor 0 0 0 0 16 1, .timing 0 32].all
        fun c => !Command.WellFormed c) = true := by decide

theorem test_events_are_checked :
    ([.fetch .a 0, .fetch .a 129, .markStageExpiry 192, .blink .a 256].all
      fun i => !Instr.WellFormed i) = true := by decide

/-! ### Words worked out by hand from R206-R210 -/

/-- Contents 0 and all ones, 15 bits: the filler and the empty marker (R209). -/
theorem test_filler_and_marker : fillerWord = 0x8000#16 ∧ emptyMarker = 0x7FFF#16 := by decide

/-- SHOW is code 9: bits 14-9 are 001001, the index field (bits 8-5) names pane 3, and four ones take
the parity bit. -/
theorem test_show_word : encodeCommand (.showPane 3) = [0x9260#16] := by decide

/-- ROLL is code 18 with its clear option in bit 0; −1 is fifteen ones, which need no parity bit. -/
theorem test_roll_words : encodeCommand (.roll 0 (-1) true) = [0x2401#16, 0x7FFF#16] := by decide

/-- RAMP's stage lies in bits 7-4 and its direction in bits 1-0; bit 4 of a colour word is KEEP. -/
theorem test_ramp_words :
    encodeCommand (.ramp 1 3 .keep (.index 2) 255 4) =
      [0x4A00#16, 0x0031#16, 0x0010#16, 0x0002#16, 0x80FF#16, 0x0004#16] := by decide

/-- guard is bit 12 of an attribute word, bg bits 7-4, fg bits 3-0. -/
theorem test_attribute_word : attrContents ⟨3, 12, false, false, false, false, true⟩ = 0x10C3 := by
  decide

/-- The table gives no row any bits, so no word spells a command. -/
theorem test_no_table_word : decodeTableWord 0 0 = none := by decide

/-! ### Examples of the spec, and results worked out by hand from its rules -/

/-- R66's examples: "1.50" against "1.5 ", "1,234" against "1234", "-0" against "0" are SAME. -/
theorem test_equal_prices_are_same :
    (judge [49, 46, 53, 48] [49, 46, 53, 32] = none ∧
      judge [49, 44, 50, 51, 52] [32, 49, 50, 51, 52] = none) ∧ judge [45, 48] [32, 48] = none := by
  decide

/-- R68's example: "  99.5" to "100.25" is UP and changes first at position 0. -/
theorem test_price_gains_a_digit :
    judge [32, 32, 57, 57, 46, 53] [49, 48, 48, 46, 50, 53] = some .up ∧
      firstChange [32, 32, 57, 57, 46, 53] [49, 48, 48, 46, 50, 53] = 0 := by decide

/-- R64 and R65: "N/A" over itself is SAME; a price to a notice is NEUTRAL. -/
theorem test_notices :
    judge [78, 47, 65] [78, 47, 65] = none ∧ judge [49, 46, 53] [78, 47, 65] = some .neutral := by
  decide

/-- PLACE at row 1 of pane 1 reaches line 1 + (2 − 1 + 0) mod 3 = 2, cells 10 on; the third code falls
past the width, so CLIP is set; the mark over cells 11-12 goes with cell 11 or 12. -/
theorem test_place :
    after (exec (.place .a 1 1 2 plain [88, 89, 90]) written) (fun t =>
      t.cell 12 = letter 88 && t.cell 13 = letter 89 && t.cell 14 = resetCell &&
        t.marks.isEmpty && (t.port .a).clip) = true := by decide

/-- A guarded cell is skipped: cell 1 is guarded (R8). -/
theorem test_place_skips_guarded :
    after (exec (.place .a 1 0 0 plain [88, 89, 90]) written) (fun t =>
      t.plane.take 3 = [(0, letter 88), (1, ⟨66, loud⟩), (2, letter 90)] &&
        !(t.port .a).clip) = true := by decide

/-- LOG writes the entering line, 1 + (1 + 2) mod 3 = 1, and moves the top line from 2 to 3 (R51). -/
theorem test_log :
    after (exec (.log .a 1 plain [88]) written) (fun t =>
      t.cell 5 = letter 88 && (t.pane 1).view.top = 3 && t.marks = written.marks) = true := by decide

/-- A backward ROLL by 2 from top line 2 in a ring of 3 from line 1 goes to line 3 (R49). -/
theorem test_roll_back :
    after (exec (.roll .a 1 (-2) true) written) (fun t =>
      (t.pane 1).view.top = 3 && t.plane = written.plane) = true := by decide

/-- SWEEP of the first row with override writes the guarded cell too (R98). -/
theorem test_sweep_override :
    after (exec (.sweep .a 1 0 0 2 1 88 plain true) written) (fun t =>
      t.cell 0 = letter 88 && t.cell 1 = letter 88) = true := by decide

/-- SHIFT by one column to the right keeps the overlapping text (R100): "1.5" moves from columns 0-2 to
columns 1-3. -/
theorem test_shift_overlap :
    after (exec (.shift .a 1 1 0 1 1 3 1) written) (fun t =>
      t.cell 10 = letter 49 && t.cell 11 = letter 49 && t.cell 12 = letter 46 &&
        t.cell 13 = letter 53) = true := by decide

/-- TINT of fg alone keeps code and guard, and leaves the mark (R7). -/
theorem test_tint :
    after (exec (.tint .a 1 0 1 1 1 plain ⟨true, false, false, false, false, false, false⟩) written)
      (fun t => t.cell 1 = ⟨66, { loud with fg := 7 }⟩ && t.marks = written.marks) = true := by decide

/-- A TICK from "1.5" to "1.6" with the digit option marks only the last cell, UP, for the six frames of
stage 0 (R68, R69, R74); the old mark over the field goes. -/
theorem test_tick_digit :
    after (exec (.tick .a 1 1 0 [49, 46, 54] true false) written) (fun t =>
      t.marks = [⟨12, 1, .up, 0, 6⟩] && t.cell 12 = letter 54) = true := by decide

/-- The arrow of a rise is code 286, in the cell left of the field (R70). -/
theorem test_tick_arrow :
    after (exec (.tick .a 1 1 2 [54] false true) written) (fun t =>
      t.cell 11 = letter 286 && t.cell 12 = letter 54 && t.marks = [⟨12, 1, .up, 0, 6⟩]) = true := by
  decide

/-- A TICK over a guarded cell is refused with GUARDED, code 6, and REPORT sets the flag (R59). -/
theorem test_tick_guarded :
    after (exec (.tick .a 1 0 0 [49, 50] false false) written) (fun t =>
      (t.port .a).faults.lastRefusal = some .guarded && (t.port .a).faults.sticky.guarded &&
        t.plane = written.plane) = true := by decide +kernel

/-- READ_CELLS of one cell appends its code word and its attribute word (R104). -/
theorem test_read_cells :
    after (exec (.readCells .b 1 0 0 1) written) (fun t =>
      (t.port .b).reply = [0x8041#16, 0x0007#16] && (t.port .b).reserved = 0) = true := by
  decide +kernel

/-- LOG discards its fifth code, past the width, after its fourth text write: a CLEAR that falls after the
first write does not clear that CLIP, and four codes set none (R51, R113). -/
theorem test_log_clip :
    (let run (codes : List Code) : Host.Outcome State Fault Refusal :=
      runEvents (eventsOf .a (.log 1 plain codes) 1 ++ .clear .a :: List.replicate 10 .cellAccess) written
    after (run [65, 66, 67, 68, 69]) (fun t => (t.port .a).clip && t.flight = none) &&
      after (run [65, 66, 67, 68]) (fun t => !(t.port .a).clip && t.flight = none)) = true := by
  decide +kernel

/-- DEFINE in order: another port's region is OVERLAP, a bad width RANGE, another's pane OWNER. -/
theorem test_define_refusals :
    (after (exec (.define .b 2 { smallGeometry with base := 19, width := 1, pitch := 1 }) ready)
        (fun t => (t.port .b).faults.lastRefusal = some .overlap) &&
      after (exec (.define .b 2 { smallGeometry with base := 20, width := 1, pitch := 1 }) ready)
        (fun t => (t.port .b).faults.lastRefusal = none) &&
      after (exec (.define .b 2 { smallGeometry with width := 0 }) ready)
        (fun t => (t.port .b).faults.lastRefusal = some .range) &&
      after (exec (.define .b 1 smallGeometry) ready)
        (fun t => (t.port .b).faults.lastRefusal = some .owner)) = true := by decide +kernel

/-- A pane that becomes pinned goes to the back of the pinned group (R36). -/
theorem test_define_pins :
    after (exec (.define .a 1 smallGeometry) ready) (fun t =>
      t.stack.take 3 = [3, 1, 0] && (t.pane 1).view.top = 1 && (t.pane 1).view.state = .shown) =
        true := by decide +kernel

/-- CLAIM of a pane held for another port is BUSY; the port it is held for gets it (R26). -/
theorem test_claim_hold :
    (after (exec (.claim .b 4) ready) (fun t => (t.port .b).faults.lastRefusal = some .busy) &&
      after (exec (.claim .c 4) ready) (fun t =>
        (t.pane 4).owner = some .c && (t.pane 4).hold = none)) = true := by decide

/-- RELEASE leaves the pane stale with a hold for its releaser (R27); DROP sends it to the back (R25). -/
theorem test_release_and_drop :
    (after (exec (.release .a 1) ready) (fun t =>
        (t.pane 1).owner = none && (t.pane 1).hold = some .a && (t.pane 1).view.stale) &&
      after (exec (.dropPane .a 3) ready) (fun t =>
        t.stack.getLast? = some 3 && !(t.pane 3).pinned)) = true := by decide

/-- BEHIND puts pane 1 behind pane 5; behind the pinned pane 3 it goes to the front of its group. -/
theorem test_behind :
    (after (exec (.behind .a 1 5) ready) (fun t => t.stack.take 7 = [3, 0, 2, 4, 5, 1, 6]) &&
      after (exec (.behind .a 1 3) ready) (fun t => t.stack.take 3 = [3, 1, 0])) = true := by decide

/-- SHOW clears stale, HIDE of an UNDEFINED pane is RANGE (R23, R24). -/
theorem test_show_and_hide :
    (after (exec (.showPane .b 2) ready) (fun t => (t.pane 2).view.state = .shown) &&
      after (exec (.hidePane .c 4) { ready with panes := ready.panes.set 4 (Pane.atReset (some .c)) })
        (fun t => (t.port .c).faults.lastRefusal = some .range)) = true := by decide

/-- A period of 255 is taken as 254 and waits for the next toggle (R135, R136). -/
theorem test_blink : after (exec (.blink .b 255) ready) (fun t =>
    t.blink = ⟨32, some 254, 0, true⟩) = true := by decide

/-- A stage duration of 0 is 1 and a count of 7 is 4 (R133). -/
theorem test_ramp : after (exec (.ramp .b 2 3 .keep (.index 4) 0 7) ready) (fun t =>
    t.ramp.neutral.count = 4 && t.ramp.neutral.stage 3 = ⟨.keep, .index 4, 1⟩ &&
      t.shownRamp = Ramp.atReset) = true := by decide

/-- Direction 3 names none: RANGE (R133). -/
theorem test_ramp_direction : after (exec (.ramp .b 3 0 .keep .keep 1 1) ready) (fun t =>
    (t.port .b).faults.lastRefusal = some .range && t.ramp = Ramp.atReset) = true := by decide

/-- A cell height of 31 is clamped to 16, of 0 to 8 (R154). -/
theorem test_timing :
    (after (exec (.timing .b 2 31) ready) (fun t => t.timing = ⟨2, 16⟩) &&
      after (exec (.timing .b 2 0) ready) (fun t => t.timing = ⟨2, 8⟩)) = true := by decide

/-- After LOCK a TIMING is TIMING_LOCKED (R155). -/
theorem test_lock : after (runEvents [.lock .a, .timing .b 1 9] ready) (fun t =>
    t.timing = ready.timing && (t.port .b).faults.lastRefusal = some .timingLocked) = true := by decide

/-- The holder of the cursor keeps it from port B with BUSY (R142). -/
theorem test_cursor_busy :
    after (runEvents [.cursor .a 1 0 0 0 15 1, .cursor .b 2 0 0 0 15 1] ready) (fun t =>
      t.holder = some .a && (t.port .b).faults.lastRefusal = some .busy) = true := by decide

/-- A glyph loaded and read back gives its eight words (R115, R127); GLYPH of a ROM code is RANGE. -/
theorem test_glyph :
    (after (runEvents [.glyph .a 384 corner, .readGlyph .a false 0 384] ready) (fun t =>
        (t.port .a).reply = readBackWords (bitmapOf corner).row && t.glyphPixel 384 0 0 &&
          t.glyphPixel 384 1 6 && !t.glyphPixel 384 0 7) &&
      after (exec (.glyph .a 383 corner) ready) (fun t =>
        (t.port .a).faults.lastRefusal = some .range)) = true := by
  decide +kernel

/-- PATCH_CODE onto the code of an enabled slot disables that slot (R120, R122). -/
theorem test_patch_rival :
    after (runEvents [.patch .a 0 65 corner, .patchCode .b 7 65] ready) (fun t =>
      !t.slots[0].enabled && t.slots[7].enabled && t.slots[0].bitmap = bitmapOf corner) = true := by
  decide +kernel

/-- UNPATCH and PATCH_ROWS keep what they do not name (R121, R123). -/
theorem test_unpatch :
    after (runEvents [.patch .a 0 65 corner, .unpatch .b 0, .patchRows .b 0 (Vector.replicate 8 0)]
      ready) (fun t => t.slots[0] = ⟨65, false, Bitmap.blank⟩) = true := by
  decide +kernel

/-- The command behind a WAIT stays queued until the frame
start (R105). -/
theorem test_wait :
    (after (runEvents [.wait .a, .staleColour .a 3] ready) (fun t => t.staleColour = 8) &&
      after (runEvents [.wait .a, .staleColour .a 3, .frameStart .latchFirst] ready)
        (fun t => t.staleColour = 3 && t.shownStaleColour = 8)) = true := by decide +kernel

/-- A port whose command waits is granted in the very event that lets it go on: the completion of the
command in flight, and the end of its port's pause (R91). -/
theorem test_granted_at_once :
    (let waiting : PortState := { PortState.atReset with queue := [encodeCommand (.staleColour 3)] }
    after (exec .cellAccess (flying [.put 0 0 (letter 88) false] (ready.setPort .b waiting)))
        (fun t => t.staleColour = 3 && t.flight = none && t.grantPtr = .b) &&
      after (exec (.retryExpiry .b) (ready.setPort .b { waiting with
        faults := { FaultRecord.atReset with condition := .paused, retry := some 2 } }))
        (fun t => t.staleColour = 3 && (t.port .b).queue.isEmpty)) = true := by decide +kernel

/-- A palette entry shows from the next frame start (R129, R130). -/
theorem test_palette :
    after (exec (.palette .a 4 1 2 3) ready) (fun t =>
      t.palette[4] = ⟨1, 2, 3⟩ && t.shownPalette[4] = ⟨0, 0, 128⟩) = true := by decide

/-- IDENT's words, fetched after both status words, then an empty marker (R183, R185, R209). -/
theorem test_ident_and_fetch :
    after (runEvents [.ident .a, .fetch .a 7] ready) (fun t =>
      (t.port .a).sent = [0x8804#16, 0x0080#16, 0xCB11#16, 0x890C#16, 0x0001#16, 0x0020#16,
        0x7FFF#16] && (t.port .a).reply.isEmpty) = true := by decide

/-- A word with an even count of ones is bad; RESUME_FAST pauses the port until the timer runs out. -/
theorem test_bad_parity_pauses :
    (after (runEvents [.transferStart .a, .wordSampled .a 0x0600#16, .transferEnd .a 0] ready)
        (fun t => (t.port .a).faults.condition = .paused && (t.port .a).faults.sticky.parity &&
          (t.port .a).faults.retry = some 2 && t.atnLow .a) &&
      after (runEvents [.transferStart .a, .wordSampled .a 0x0600#16, .transferEnd .a 0,
        .retryExpiry .a] ready) (fun t => (t.port .a).faults.condition = .running &&
          (t.port .a).faults.sticky.parity)) = true := by decide

/-- A LINK fault between a command's grant and the recording of its refusal pauses the port for 2 ms; the
refusal that follows, in RESUME_SLOW, sets the timer to 50 ms (R196; log 29). -/
theorem test_refusal_in_a_pause :
    after (runEvents (.mode .a 1 3 :: eventsOf .a (.showPane 2) 0 ++
      [.transferStart .a, .wordSampled .a 0x0600#16, .transferEnd .a 0]) ready) (fun t =>
        (t.port .a).faults.retry = some 2 && (t.port .a).faults.lastRefusal = none &&
          after (exec .cellAccess t) (fun u => (u.port .a).faults.retry = some 50 &&
            (u.port .a).faults.lastRefusal = some .owner && u.flight = none)) = true := by
  decide +kernel

/-- FAULTS after an OWNER refusal, then CLEAR (R198, R199, R209). -/
theorem test_faults_and_clear :
    after (runEvents [.showPane .a 2, .faults .a, .clear .a] ready) (fun t =>
      (t.port .a).reply = [0x0010#16, 0x800A#16, 0x0001#16] &&
        (t.port .a).faults = FaultRecord.atReset) = true := by decide

/-- MODE sets REFUSE to LATCH; a refusal then halts the port and a good transfer is dropped. -/
theorem test_mode_latch :
    after (runEvents [.mode .a 1 4, .showPane .a 2, .lock .a] ready) (fun t =>
      (t.port .a).faults.condition = .halted && !t.timingLock && (t.port .a).queue.isEmpty) =
        true := by decide

/-- A transfer that ends three bits into a word is FRAMING (R177). -/
theorem test_framing :
    after (runEvents [.transferStart .a, .transferEnd .a 3] ready) (fun t =>
      (t.port .a).faults.sticky.framing && !(t.port .a).selLow) = true := by decide

/-- SDO_A carries status word A, 0x0800, since DRAIN (bit 11) alone is set; five of its bits cross before the
select line rises, and then SDO_A is high-impedance, as SDO_B is throughout (R172, R187). -/
theorem test_sdo :
    (after (exec (.transferStart .a) ready) (fun t =>
        [t.sdo .a 0, t.sdo .a 3, t.sdo .a 4, t.sdo .a 5] =
          [some false, some false, some true, some false] && t.sdo .b 4 = none) &&
      after (runEvents [.transferStart .a, .transferEnd .a 5] ready) (fun t =>
        (t.port .a).sentBits = [false, false, false, false, true] && t.sdo .a 4 = none)) = true := by
  decide +kernel
/-- Power-on, clear, lock: the first frame runs and the ports are ready; OSEL 3 splits the panes 6, 6,
4 (R31). -/
theorem test_power_on :
    after (runEvents [.resetAssertion, .powerOnReset 3 1, .planeClearComplete .ageFirst,
      .clockLockAchieved .ageFirst] written) (fun t =>
        t.framesRun && t.ready .c && (t.pane 5).owner = some .a && (t.pane 6).owner = some .b &&
          (t.pane 12).owner = some .c && t.timing = ⟨1, 16⟩ && t.plane.isEmpty) = true := by
  decide +kernel

/-- Loss of lock sets CLOCK on every port and blanks the picture (R205). -/
theorem test_loss_of_lock :
    after (exec .lossOfLock ready) (fun t =>
      (t.port .c).faults.sticky.clock && !t.framesRun && t.atnLow .b) = true := by decide

/-- A WAKE clear pulse clears CLIP and the flags of every port (R202). -/
theorem test_wake :
    after (runEvents [.showPane .a 2, .wakeClearPulse] ready) (fun t =>
      !(t.port .a).faults.sticky.any && (t.port .a).faults.lastRefusal = none) = true := by decide

/-- Standby and back: the clock locks again before frames run (R203, R204). -/
theorem test_standby :
    after (runEvents [.standbyEntry, .standbyExit] ready) (fun t =>
      t.clock = .locking && t.ready .a && !t.framesRun) = true := by decide

/-- PORT_RESET releases the port's panes and holds the port until its line rises (R30, R191). -/
theorem test_port_reset :
    (after (exec (.portReset .a) ready) (fun t =>
        (t.pane 1).owner = none && (t.pane 3).hold = some .a && !t.ready .a) &&
      after (runEvents [.portReset .a, .portResetRelease .a] ready) (fun t => t.ready .a)) =
        true := by
  decide +kernel

/-- A READ_GLYPH granted and stopped by PORT_RESET before its reading takes none of the 8 places reserved
for it (R128; log 30). -/
theorem test_port_reset_of_read_glyph :
    after (runEvents (eventsOf .b (.readGlyph false 0 384) 0) ready) (fun t =>
      (t.port .b).reserved = 8 && t.flight.isSome &&
        after (exec (.portReset .b) t) (fun u =>
          (u.port .b).reserved = 0 && (u.port .b).reply.isEmpty && u.flight = none)) = true := by
  decide +kernel

/-- A mark ages one frame at each frame start and changes stage at the last (R77). -/
theorem test_ageing :
    (after (exec (.frameStart .latchFirst) { ready with marks := [⟨0, 1, .up, 0, 2⟩] }) (fun t =>
        t.marks = [⟨0, 1, .up, 0, 1⟩])) = true := by decide

/-- A frame start at which the frames left of a record reach 0, in either order of the latch and the ageing:
the record goes to its next stage, and the one behind it ages too (R77, R78). -/
theorem test_stage_expiry :
    after (exec (.markStageExpiry 0)
      { ready with marks := [⟨0, 1, .up, 0, 1⟩, ⟨5, 1, .up, 0, 6⟩] }) (fun t =>
        t.marks = [⟨0, 1, .up, 1, 12⟩, ⟨5, 1, .up, 0, 5⟩]) = true := by
  simp only [exec, execStageExpiry, onStageExpiry]
  generalize State.freeOrder _ = o
  cases o <;> decide +kernel

/-- A blink timer at count `n` of 16, a BLINK pending, and a palette entry that waits for a frame start. -/
def blinking (n : Nat) : State :=
  { ready with blink := ⟨32, some 8, n, true⟩, palette := ready.palette.set 4 ⟨1, 2, 3⟩ }

/-- The blink phase toggles when the counter reaches half the period, at a frame start, which latches the
palette too; one count short of that there is no toggle (R131, R137). -/
theorem test_blink_toggle :
    after (exec .blinkToggle (blinking 15)) (fun t =>
        t.blink = ⟨8, none, 0, false⟩ && t.shownPalette[4] = ⟨1, 2, 3⟩) = true ∧
      after (exec .blinkToggle (blinking 14)) (fun t => t = blinking 14) = true := by
  simp only [exec, execBlinkToggle, onBlinkToggle]
  generalize State.freeOrder _ = o
  generalize State.freeOrder _ = o'
  cases o <;> cases o' <;> decide +kernel

/-- The arbiter passes over a port with nothing queued (R90). -/
theorem test_arbiter :
    after (exec .arbiterGrant { ready with ports := ⟨PortState.atReset,
      { PortState.atReset with queue := [waitWords] }, PortState.atReset⟩ }) (fun t =>
        t.grantPtr = .b && (t.port .b).waiting) = true := by decide

/-- A granted PLACE does one cell at each access (R94). -/
theorem test_cell_access :
    after (exec .cellAccess (flying [.put 0 0 (letter 88) false, .put 1 0 (letter 89) false] ready))
      (fun t => t.plane = [(0, letter 88)] && t.flight.isSome) = true := by decide

theorem test_completion :
    (after (exec .commandCompletion (flying [.put 0 0 (letter 88) false] ready))
        (fun t => t.plane = [(0, letter 88)] && t.flight = none) &&
      after (exec .commandCompletion
        (flying [.put 0 0 (letter 88) false, .put 1 0 (letter 89) false] ready))
        (fun t => t.plane.isEmpty && t.flight.isSome)) = true := by decide

/-- Off the panes a pixel is entry 0, and so is a blank cell's; the cursor in its column draws the
foreground, entry 7 (R160-R168). -/
theorem test_border_and_cursor :
    (let blank : State := { written with plane := [], marks := [] }
    written.pixel written 0 0 = ⟨0, 0, 0⟩ ∧ written.pixel blank 24 16 = ⟨0, 0, 0⟩ ∧
      { written with shownCursor := ⟨1, 0, 1, 0, 15, .steady⟩ }.pixel blank 24 16 =
        ⟨192, 192, 192⟩) := by decide

/-- A pane that reaches past column 239 of preset 0 is not shown beyond it: the last pixel of the line has
the pane's colour, and the place after it is no active pixel (R38, R148, R158). -/
theorem test_right_edge :
    (let edge : State :=
      { ready with
        shownPanes := State.reset.shownPanes.set 1 { viewOne with originCol := 239, originRow := 0 }
        shownPalette := State.reset.shownPalette.set 0 ⟨1, 2, 3⟩ }
    let live : State := { edge with plane := [(0, ⟨32, { plain with bg := 4 }⟩)] }
    edge.videoOut live (.active 1919 0) = ⟨⟨0, 0, 128⟩, false, false, true, true⟩ ∧
      edge.videoOut live (.active 1911 0) = ⟨⟨1, 2, 3⟩, false, false, true, true⟩ ∧
      edge.videoOut live (.active 1920 0) = ⟨⟨0, 0, 0⟩, false, false, false, true⟩ ∧
      edge.videoOut live (.blanking true false) = ⟨⟨0, 0, 0⟩, true, false, false, true⟩) := by decide

/-- TINT of the background of cell 1, which pane 1 shows at pixel (24, 16). -/
def tintOne : Instr :=
  .tint .a 1 0 1 1 1 { plain with bg := 4 } ⟨false, true, false, false, false, false, false⟩

/-- A change between the fetch of a cell and its output shows one pixel row later (R169). -/
theorem test_change_after_fetch :
    (drawRows 24 16 [⟨[], [tintOne]⟩, ⟨[], []⟩] ready).map VideoLines.colour =
      [⟨0, 0, 0⟩, ⟨0, 0, 128⟩] := by decide +kernel

/-- The first picture after a loss of lock shows the change made in between, whatever state of before is
offered for the fetch: one of the old picture, or one while the output was blank (R169, R171). -/
theorem test_first_picture_after_blank :
    (let blank := [Instr.lossOfLock]
    after (runEvents (blank ++ [tintOne, .clockLockAchieved .latchFirst]) ready) (fun t =>
      (t.videoOut ready (.active 24 16)).colour = ⟨0, 0, 128⟩ &&
        after (runEvents blank ready) fun old =>
          (t.videoOut old (.active 24 16)).colour = ⟨0, 0, 128⟩)) = true := by decide +kernel

/-- Section 8.8's displayed state. -/
def worked : State :=
  { ready with
    plane := [(24444, ⟨53, ⟨7, 0, false, true, true, false, false⟩⟩)]
    shownPanes := State.reset.shownPanes.set 11
      ⟨.shown, false, 150, 30, 40, 12, 24000, 40, 20, 2, 9, 4, some 14⟩
    marks := [⟨24443, 3, .down, 0, 4⟩]
    shownCursor := ⟨11, 4, 4, 9, 11, .steady⟩ }

/-- Section 8.8's pixel, and the same with the cursor's blink phase OFF, with the mark expired, and on
the leftover line 1,075. -/
theorem test_worked_pixel :
    (worked.pixel worked 1237 550 = ⟨255, 255, 255⟩ ∧ worked.pixel worked 1237 1075 = ⟨0, 0, 0⟩) ∧
      { worked with
        shownCursor := ⟨11, 4, 4, 9, 11, .blink⟩
        blink := ⟨32, none, 0, false⟩ }.pixel worked 1237 550 = ⟨128, 0, 0⟩ ∧
      worked.pixel { worked with marks := [] } 1237 550 = ⟨192, 192, 192⟩ := by decide +kernel

/-- Section 3.5: F = 1, height 5, L = 7; from T = 1 the six LOGs enter lines 5, 6, 1, 2, 3, 4. -/
theorem test_worked_log :
    [1, 2, 3, 4, 5, 6].map (fun T => (viewOf .shown 40 5 1000 40 7 1 T).entering) =
      [5, 6, 1, 2, 3, 4] ∧
      ((viewOf .shown 40 5 1000 40 7 1 6).advanced 1).top = 1 := by decide

/-- Section 4.10, cases 3, 4 and 7: "-0.10" to " 0.00" is UP, " 0.00" to "-0.00" SAME, "N/A  " to
"12.5 " NEUTRAL, sixteen 9s to ".000000000000001" DOWN. -/
theorem test_worked_prices :
    (judge [45, 48, 46, 49, 48] [32, 48, 46, 48, 48] = some .up ∧
      judge [32, 48, 46, 48, 48] [45, 48, 46, 48, 48] = none) ∧
      judge [78, 47, 65, 32, 32] [49, 50, 46, 53, 32] = some .neutral ∧
      judge (List.replicate 16 57) (46 :: List.replicate 14 48 ++ [49]) = some .down := by
  decide +kernel

/-- Section 4.10, case 6: a new mark in a full table evicts the head. -/
theorem test_worked_eviction :
    (recordMark ((List.range 192).map fun i => ⟨10 * i, 6, .up, 2, 3⟩) 12100 9
      ⟨12103, 6, .down, 0, 6⟩).length = 192 ∧
      (recordMark ((List.range 192).map fun i => ⟨10 * i, 6, .up, 2, 3⟩) 12100 9
        ⟨12103, 6, .down, 0, 6⟩)[0]? = some ⟨10, 6, .up, 2, 3⟩ := by decide +kernel

/-! ### Witnesses: states and operands that meet the hypotheses of the obligations -/

/-- Commands that `written` takes, one of each kind, with the port that sends it. -/
def takenSamples : List (Port × Command) :=
  [(.a, .define 1 smallGeometry), (.b, .showPane 2), (.a, .hidePane 1), (.a, .dropPane 3),
   (.c, .claim 4), (.a, .release 1), (.a, .raise 1), (.a, .lower 3), (.a, .behind 1 5),
   (.a, .setTop 1 3 15), (.b, .setTop 2 2 0), (.a, .roll 1 2 true), (.a, .roll 1 (-16384) true),
   (.a, .roll 1 16383 false), (.b, .roll 2 1 true), (.a, .roll 1 0 true),
   (.a, .log 1 loud [65, 66, 67, 68, 69]), (.a, .log 1 plain []),
   (.a, .place 1 2 3 plain [65, 66]), (.a, .place 3 0 0 plain [65]),
   (.a, .sweep 1 1 3 9 9 65 plain false), (.a, .sweep 1 511 511 0 1 65 plain true),
   (.a, .shift 1 0 0 1 1 9 9), (.a, .tint 1 2 3 2 1 loud ⟨true, true, true, true, true, true, true⟩),
   (.a, .tick 1 1 1 [48, 54] true true), (.a, .tick 1 2 0 [32, 32, 32, 32] true true),
   (.b, .readCells 1 2 3 32), (.c, .wait), (.b, .glyph 384 corner), (.b, .patch 7 383 corner),
   (.b, .patchRows 7 corner), (.b, .patchCode 0 0), (.b, .unpatch 0), (.b, .readGlyph true 7 0),
   (.b, .readGlyph false 15 384), (.b, .readGlyph false 0 383), (.b, .palette 15 255 0 255),
   (.b, .ramp 2 3 .keep (.index 15) 0 0), (.b, .ramp 0 0 (.index 1) .keep 255 7),
   (.b, .staleColour 15), (.b, .blink 0), (.b, .blink 255), (.a, .cursor 1 511 511 15 0 2),
   (.a, .cursor 3 0 0 0 0 0), (.c, .timing 3 31), (.c, .lock)]

/-- Commands that `written` refuses, each with its code. -/
def refusedSamples : List ((Port × Command) × RefusalCode) :=
  [((.b, .define 1 smallGeometry), .owner), ((.b, .define 2 { smallGeometry with width := 0 }), .range),
   ((.b, .define 2 { smallGeometry with base := 0 }), .overlap), ((.a, .claim 2), .busy),
   ((.b, .claim 4), .busy), ((.a, .setTop 1 0 0), .range), ((.b, .setTop 2 1 0), .range),
   ((.b, .log 2 plain []), .range), ((.a, .place 1 3 0 plain [65]), .range),
   ((.a, .shift 1 0 0 0 4 1 1), .range), ((.a, .tick 1 1 3 [65, 66] false false), .range),
   ((.a, .tick 1 0 0 [65, 66] false false), .guarded), ((.b, .readCells 1 0 0 33), .range),
   ((.b, .readCells 4 0 0 1), .range), ((.b, .glyph 383 corner), .range),
   ((.b, .patch 8 0 corner), .range), ((.b, .patchCode 0 384), .range), ((.b, .unpatch 8), .range),
   ((.b, .readGlyph true 8 0), .range), ((.b, .ramp 3 0 .keep .keep 1 1), .range),
   ((.b, .ramp 0 4 .keep .keep 1 1), .range), ((.a, .cursor 1 0 0 0 0 3), .range)]

theorem witness_taken_commands :
    (takenSamples.all fun e => e.2.WellFormed && written.freeFor e.1 e.2 &&
      written.verdict e.1 e.2 = none) = true := by decide +kernel

theorem witness_refused_commands :
    (refusedSamples.all fun e => e.1.2.WellFormed && written.freeFor e.1.1 e.1.2 &&
      written.verdict e.1.1 e.1.2 = some e.2) = true := by decide +kernel

/-- The state the command statements share: legal geometry, a plane in canonical form, owned panes. -/
theorem witness_shared_hypotheses :
    (written.StackLaw ∧ written.plane.wf = true) ∧ (written.pane 1).view.Legal ∧
      (written.pane 2).view.Legal ∧ (written.pane 1).owner = some .a := by
  refine ⟨⟨by decide +kernel, by decide⟩, by decide, by decide, by decide⟩

/-- Port `x` sends `c` to `written`, whose plane is in canonical form, and it passes its checks. -/
def meets (x : Port) (c : Command) : Bool :=
  c.WellFormed && written.freeFor x c && written.verdict x c = none && written.plane.wf &&
    (written.pane 1).view = viewOne

theorem viewOne_legal : viewOne.Legal := by decide

theorem witness_StepTakesTheFrontEvent : State.reset.pending = [] := rfl

theorem witness_DeafPortTakesNothing :
    (((opened fresh ready).port .a).selLow = true ∧
      (State.reset.ready .a = false ∧ (State.reset.port .a).openT = none ∧ State.reset.ServedLaw)) ∧
      (Instr.wait .a).command = some (.a, .wait) := by decide

theorem witness_ClockLocksAndLosesLock :
    ((State.reset.phase = .clearing ∧ State.reset.standby = false ∧
      (State.reset.port .a).held = false) ∧
      { State.reset with clock := .locked }.clock = .locked) ∧ State.reset.clock = .locking ∧
      ready.phase ≠ .clearing ∧ ready.clock ≠ .locking ∧ ready.clock = .locked ∧
      asleep.clock ≠ .locked := by decide

theorem witness_FrameStartActsInEveryBlock :
    ready.framesRun = true ∧ State.reset.framesRun = false := by decide

theorem witness_MarkShowsEachStageForItsDuration :
    (let s : State := { ready with marks := [⟨5, 1, .down, 1, 2⟩, ⟨1, 2, .up, 0, 6⟩, ⟨7, 1, .up, 2, 9⟩] }
    (s.framesRun = true ∧ s.marks = [⟨5, 1, .down, 1, 2⟩] ++ ⟨1, 2, .up, 0, 6⟩ :: [⟨7, 1, .up, 2, 9⟩] ∧
      (∀ x ∈ [Port.a, .b, .c], (s.port x).queue = []) ∧ ((s.ramp.dir .up).stage 0).duration = 6 ∧ s.ramp.Legal ∧
      s.shownRamp = s.ramp ∧ s.timing.preset = s.shownTiming.preset) ∧
      ((s.ramp.dir .up).lifetime 0 ≤ 0 ∧ 5 < (s.ramp.dir .up).lifetime 1) ∧
      ((s.ramp.dir .up).lifetime 2 ≤ 18 ∧ 35 < (s.ramp.dir .up).lifetime 3) ∧
      (s.ramp.dir .up).lifetime (s.ramp.dir .up).count ≤ 36) := by decide +kernel

theorem witness_BlinkPhaseFollowsThePeriod :
    ready.framesRun = true ∧ ready.timing.preset = ready.shownTiming.preset ∧
      EvenPeriod ready.blink.latch ∧ ready.blink.pending = none ∧ ready.blink.counter = 0 ∧
      ∀ x ∈ [Port.a, .b, .c], (ready.port x).queue = [] := by decide

theorem witness_StageExpiryAndToggle :
    ({ ready with marks := [⟨1, 2, .up, 2, 1⟩] } : State).marks[0]? = some ⟨1, 2, .up, 2, 1⟩ ∧
      ready.framesRun = true ∧ State.reset.framesRun = false ∧
      ({ ready with blink := ⟨32, some 8, 15, true⟩ } : State).blink.counter + 1 = 32 / 2 ∧
      ready.blink.counter + 1 ≠ ready.blink.latch / 2 ∧
      (∀ m, ({ ready with marks := [⟨1, 2, .up, 2, 2⟩] } : State).marks[0]? = some m → 1 < m.left) := by
  refine ⟨by decide, by decide, by decide, by decide, by decide, fun m h => ?_⟩
  cases h
  decide

theorem witness_StatusWordsCarryTheirFields :
    ((withA (fun p => { p with reply := List.replicate 64 emptyMarker }) ready).port .a).reply.length ≤
      64 := by decide

/-- A queue one word short of full, and full, at the first word and at a later one; then an overrun. -/
theorem witness_SampledWordJoinsTheQueue :
    (let long (n : Nat) (o : OpenTransfer) : State :=
      opened o (withA (fun p => { p with queue := [List.replicate n fillerWord] }) ready)
    let later : OpenTransfer :=
      { fresh with
        header := some 0x9260#16
        destination := some .queue
        words := 1
        queued := [0x9260#16] }
    (ready.port .a).openT = none ∧ (long 127 fresh).ready .a = true ∧
      isService (headerCode 0x9260#16) = false ∧ headerCode 0x9260#16 ≠ 1 ∧
      ((long 127 fresh).port .a).wordsHeld = 127 ∧ ((long 128 fresh).port .a).wordsHeld = 128 ∧
      ((long 126 later).port .a).wordsHeld = 127 ∧ ((long 127 later).port .a).wordsHeld = 128 ∧
      ({ later with overrun := true } : OpenTransfer).overrun = true) := by decide +kernel

theorem witness_SampledServiceWordIsCounted :
    (let first := opened fresh ready
    let later := opened { fresh with
      header := some (mkWord 512)
      destination := some .assembler
      words := 1
      heldWords := [mkWord 512] } ready
    first.ready .a = true ∧ later.ready .a = true ∧ isService (headerCode (mkWord 512)) = true ∧
      fresh.header = none ∧ ((later.port .a).openT.bind OpenTransfer.header) = some (mkWord 512)) := by
  decide

/-- Each LINK flag alone: a partial word, a bad parity, a count IDENT does not allow. -/
theorem witness_LinkFaultActsByItsMode :
    (let s := opened { fresh with header := some (mkWord 2560), words := 2 } ready
    (s.port .a).selLow = true ∧ (3 : Fin 16).val ≠ 0 ∧
      ({ fresh with paritySeen := true } : OpenTransfer).paritySeen = true ∧
      parityGood (mkWord 2560) = true ∧ countAllowed (headerCode (mkWord 2560)) 2 = false) := by decide

theorem witness_GoodTransferIsTakenAtItsEnd :
    (ready.port .a).selLow = false ∧
      (let shut := withA (fun p => { p with selLow := true }) ready
      (shut.port .a).selLow = true ∧ (shut.port .a).openT = none) ∧
      ((opened fresh ready).port .a).openT = some fresh ∧ fresh.header = none ∧
      (parityGood (mkWord 2560) = true ∧ countAllowed (headerCode (mkWord 2560)) 1 = true) ∧
      parityGood 0x9260#16 = true ∧ countAllowed (headerCode 0x9260#16) 1 = true := by decide

/-- FETCH when no read waits, and when the room it makes lets the read at the head of the queue go on. -/
theorem witness_FetchShiftsTheReply :
    (let blocked : State := withA (fun p => { p with
      queue := [encodeCommand (.readCells 1 0 0 32)], reply := [emptyMarker, emptyMarker] }) ready
    let p : PortState := { blocked.port .a with
      openT := none
      sent := [blocked.statusA .a, blocked.statusB .a, emptyMarker]
      sentBits := []
      reply := [emptyMarker] }
    let q : PortState := { p with sent := p.sent ++ [emptyMarker], reply := [] }
    (blocked.ServedLaw ∧ blocked.ready .a = true ∧ (blocked.port .a).selLow = false) ∧
      (blocked.setPort .a p).arbiterPick = none ∧ (blocked.setPort .a q).arbiterPick = some .a ∧
      p.sent = (blocked.statusA .a :: blocked.statusB .a :: (blocked.port .a).reply ++
        List.replicate 3 emptyMarker).take 3 ∧ p.reply = (blocked.port .a).reply.drop (3 - 2)) := by
  decide +kernel

/-- For FAULTS, IDENT, CLEAR and MODE: a ready port, and a room just enough and one word short. -/
theorem witness_service_transfers :
    (let held (n : Nat) := withA (fun p => { p with reply := List.replicate n emptyMarker }) ready
    (ready.ServedLaw ∧ ready.ready .a = true ∧ (ready.port .a).selLow = false) ∧
      (held 61).ServedLaw ∧ (held 62).ServedLaw ∧
      ((held 61).port .a).reply.length + 3 = 64 ∧ ((held 60).port .a).reply.length + 4 = 64 ∧
      (held 62).ready .a = true ∧
      [FaultMode.ignore, .report, .resumeFast, .resumeSlow, .latch][(4 : Fin 8).val]? = some .latch ∧
      [FaultMode.ignore, .report, .resumeFast, .resumeSlow, .latch][(5 : Fin 8).val]? = none) := by
  decide

theorem witness_ParityBitMakesTheOnesOdd : parityGood 0x9260#16 = true := by decide

/-- One port eligible: the first, the second and the third the arbiter asks. -/
theorem witness_ArbiterGrantsInRotation :
    (let asked (ptr : Port) := { withA (fun p => { p with queue := [waitWords] }) ready with
      grantPtr := ptr }
    ((asked .c).flight = none ∧ (asked .c).eligible .a = true ∧ decodeCommand waitWords = some .wait ∧
      Port.a = Port.after .c) ∧
      (Port.a = Port.after (Port.after .b) ∧ (asked .b).eligible (Port.after .b) = false) ∧
      ((asked .a).eligible (Port.after .a) = false ∧
        (asked .a).eligible (Port.after (Port.after .a)) = false) ∧
      (ready.eligible .a = false ∧ ready.eligible .b = false ∧ ready.eligible .c = false) ∧
      (flying [.load 0 0] ready).flight ≠ none) := by decide +kernel

/-- Every kind of step reaches a cell of pane 1, the last one included. -/
def stepSamples : List Micro :=
  [.put 3 2 (letter 65) false, .load 3 2, .store 3 2, .tint 3 2 plain
    ⟨true, false, false, false, false, false, false⟩, .read 3 2, .clearCell 3 4, .text 3 3 (letter 65),
   .readOld 3 2, .putCode 3 2 65, .markEvent 0 2 [65] true, .arrow 0 2 [65], .advance 1, .discard,
   .readBitmap true 0 0, .refuse .owner]

theorem witness_CellAccessAndCompletion :
    (stepSamples.all fun m => (m.address viewOne).all fun a => a < 32768) = true ∧
      32768 ≤ viewOne.lineAddr 6554 0 ∧
      (2 ≤ ((withA (fun p => { p with reserved := 2 }) ready).port .a).reserved ∧
        8 ≤ ((withA (fun p => { p with reserved := 8 }) ready).port .a).reserved ∧
        dropIdleMark ((Micro.load 0 0).progress ⟨.a, waitWords, 1, [], none, []⟩ ready).old [] = [] ∧
        dropIdleMark ((Micro.load 0 0).progress ⟨.a, waitWords, 1, [], none, []⟩ ready).old
          [.store 0 0] ≠ []) ∧
      (flying [.clearCell 3 4] ready).flight = some ⟨.a, waitWords, 1, [.clearCell 3 4], none, []⟩ ∧
      ready.flight = none := by decide +kernel

theorem witness_WholeCommandIsCarriedOut :
    (Instr.place .a 1 2 3 plain [65, 66]).command = some (.a, .place 1 2 3 plain [65, 66]) ∧
      Command.WellFormed (.place 1 2 3 plain [65, 66]) = true ∧
      written.freeFor .a (.place 1 2 3 plain [65, 66]) = true := by decide +kernel

theorem witness_CommandRowIsItsEvents :
    (Instr.tick .a 1 1 1 [48, 54] true true).command = some (.a, .tick 1 1 1 [48, 54] true true) ∧
      Command.WellFormed (.tick 1 1 1 [48, 54] true true) = true ∧
      written.freeFor .a (.tick 1 1 1 [48, 54] true true) = true := by decide +kernel

/-- The five reasons a port is not served at once, and a transfer that just fits and one that does not. -/
theorem witness_UnservedCommandWaits :
    (let full (n : Nat) :=
      flying [.load 0 0] (withA (fun p => { p with queue := [List.replicate n fillerWord] }) ready)
    let halted := withA (fun p => { p with faults := { p.faults with condition := .halted } }) ready
    let waits := withA (fun p => { p with waiting := true, queue := [waitWords] }) ready
    let filled := withA (fun p => { p with reply := List.replicate 63 emptyMarker }) ready
    ((full 127).ServedLaw ∧ (full 127).ready .a = true ∧ ((full 127).port .a).openT = none ∧
      (full 127).flight ≠ none ∧ ((full 127).port .a).queue ≠ []) ∧
      (halted.ServedLaw ∧ (halted.port .a).faults.condition ≠ .running) ∧
      (waits.ServedLaw ∧ (waits.port .a).waiting = true ∧ (waits.port .a).queue ≠ []) ∧
      (filled.ServedLaw ∧ (filled.port .a).room < replyNeed (some (.readCells 1 0 0 1))) ∧
      ((full 127).port .a).wordsHeld + (encodeCommand .wait).length = 128 ∧
      128 < ((full 128).port .a).wordsHeld + (encodeCommand .wait).length) := by decide +kernel

/-- Operands at the ends of their fields. -/
theorem witness_DecodeInvertsEncode :
    ([.define 15 ⟨511, 511, 511, 511, 32767, 511, 32768, 511, 31, 511, loud, true⟩,
      .setTop 0 32767 15, .roll 0 (-16384) true, .roll 0 16383 false,
      .log 15 loud (List.replicate 124 511), .place 0 511 511 loud (List.replicate 124 0),
      .tick 0 511 511 (List.replicate 16 511) true true, .readCells 0 511 511 511,
      .timing 3 31].all Command.WellFormed) = true := by decide +kernel

theorem witness_RefusedCommandDoesNothingElse :
    (Instr.claim .a 2).command = some (.a, .claim 2) ∧ Command.WellFormed (.claim 2) = true ∧
      written.freeFor .a (.claim 2) = true ∧ written.verdict .a (.claim 2) = some .busy := by
  decide +kernel

theorem witness_DefineSetsTheRecord :
    Command.WellFormed (.define 1 smallGeometry) = true ∧
      written.freeFor .a (.define 1 smallGeometry) = true ∧
      written.verdict .a (.define 1 smallGeometry) = none ∧ written.StackLaw := by decide +kernel

theorem witness_ShowHideAndDrop :
    (written.freeFor .b (.showPane 2) = true ∧ written.verdict .b (.showPane 2) = none ∧
      written.freeFor .a (.hidePane 1) = true ∧ written.verdict .a (.hidePane 1) = none) ∧
      written.freeFor .a (.dropPane 3) = true ∧ written.StackLaw ∧
      (written.pane 3).owner = some .a := by decide +kernel

theorem witness_ClaimAndRelease :
    written.freeFor .c (.claim 4) = true ∧ written.freeFor .a (.release 1) = true ∧
      (written.pane 1).owner = some .a := by decide +kernel

/-- A pinned pane and one that is not. -/
theorem witness_RaiseAndLowerMoveInTheGroup :
    (written.StackLaw ∧ (written.pane 1).owner = some .a ∧ (written.pane 3).owner = some .a) ∧
      (written.pane 1).pinned = false ∧ (written.pane 3).pinned = true ∧
      written.freeFor .a (.raise 1) = true ∧ written.freeFor .a (.lower 3) = true := by decide +kernel

theorem witness_BehindPlacesThePane :
    (written.StackLaw ∧ (written.pane 1).owner = some .a ∧ written.freeFor .a (.behind 1 1) = true) ∧
      ((1 : PaneId) ≠ 5 ∧ (written.pane 1).pinned = (written.pane 5).pinned ∧
        written.freeFor .a (.behind 1 5) = true) ∧
      ((1 : PaneId) ≠ 3 ∧ (written.pane 1).pinned ≠ (written.pane 3).pinned ∧
        written.freeFor .a (.behind 1 3) = true) := by decide +kernel

theorem witness_RowMapStaysInsideTheRegion :
    viewOne.Legal ∧ viewTwo.Legal ∧ viewThree.Legal ∧ (1 ≤ 1 ∧ 1 + 1 < viewOne.height) ∧
      viewOne.frozen < viewOne.height := by
  refine ⟨by decide, by decide, by decide, by decide, by decide⟩

/-- The top line at both ends of its range; rolls of both signs and of 0; a pane with no ring. -/
theorem witness_TopLineMoves :
    ((meets .a (.setTop 1 1 0) && meets .a (.setTop 1 3 15) && meets .a (.roll 1 (-16384) true) &&
      meets .a (.roll 1 1 false) && meets .a (.roll 1 0 true) && meets .b (.roll 2 1 true)) = true ∧
      (written.pane 2).view = viewTwo ∧ viewTwo.ringLines = viewTwo.frozen) ∧
      viewOne.Legal ∧ viewTwo.Legal :=
  ⟨by decide +kernel, viewOne_legal, by decide⟩

/-- One line, and every line of the ring. -/
theorem witness_RollWithClearBlanksTheLines :
    (meets .a (.roll 1 1 true) = true ∧ meets .a (.roll 1 16383 true) = true ∧
      viewOne.frozen < viewOne.ringLines) ∧ viewOne.Legal :=
  ⟨by decide +kernel, viewOne_legal⟩

/-- No code, and one past the width. -/
theorem witness_LogWritesTheEnteringLine :
    (meets .a (.log 1 plain []) = true ∧ meets .a (.log 1 loud [65, 66, 67, 68, 69]) = true) ∧
      viewOne.Legal :=
  ⟨by decide +kernel, viewOne_legal⟩

/-- Codes cut at the width, a column past it, and a guarded cell in the way. -/
theorem witness_PlaceWritesItsColumns :
    (meets .a (.place 1 2 3 plain [65, 66]) = true ∧ meets .a (.place 1 0 511 plain [65]) = true ∧
      meets .a (.place 1 0 0 plain [65, 66]) = true ∧
      (written.cell (viewOne.cellAddr 1 0)).attr.guarded = true) ∧ viewOne.Legal :=
  ⟨by decide +kernel, viewOne_legal⟩

/-- A rectangle cut at both edges, an empty one, and one over a guarded cell. -/
theorem witness_SweepFillsTheRectangle :
    (meets .a (.sweep 1 1 3 9 9 65 plain false) = true ∧
      meets .a (.sweep 1 511 511 0 1 65 plain true) = true ∧
      meets .a (.sweep 1 0 0 2 1 65 plain true) = true) ∧ viewOne.Legal :=
  ⟨by decide +kernel, viewOne_legal⟩

/-- Down and right with cut corners; up and left within one row. -/
theorem witness_ShiftCopiesTheRectangle :
    (meets .a (.shift 1 0 0 1 1 9 9) = true ∧ meets .a (.shift 1 1 1 1 0 3 1) = true) ∧
      viewOne.Legal :=
  ⟨by decide +kernel, viewOne_legal⟩

/-- Some fields, and none. -/
theorem witness_TintSetsTheSelectedFields :
    (meets .a (.tint 1 2 3 2 1 loud ⟨true, false, true, false, true, false, true⟩) = true ∧
      meets .a (.tint 1 0 0 4 3 loud ⟨false, false, false, false, false, false, false⟩) = true) ∧
      viewOne.Legal :=
  ⟨by decide +kernel, viewOne_legal⟩

/-- The longest read, cut at the width, and one cell. -/
theorem witness_ReadCellsAppendsPairs :
    (meets .b (.readCells 1 2 3 32) = true ∧ meets .b (.readCells 1 0 0 1) = true) ∧
      viewOne.Legal :=
  ⟨by decide +kernel, viewOne_legal⟩

/-- A text that is no number; two numbers of different scales. -/
theorem witness_JudgmentOfTheTwoTexts :
    (([78, 47, 65] : List Code) ≠ [49, 46, 53] ∧ parsePrice [78, 47, 65] = none) ∧
      ([49, 46, 53] : List Code) ≠ [49, 46, 54, 48] ∧ parsePrice [49, 46, 53] = some (15, 1) ∧
      parsePrice [49, 46, 54, 48] = some (160, 2) := by decide

/-- Section 4.3's table of R63, with spaces at both ends; a text of 16 codes at the bounds. -/
theorem witness_PriceTextsAreRead :
    ([([49, 50, 46, 53, 48], some (1250, 2)), ([45, 49, 44, 48, 48, 48], some (-1000, 0)),
      ([32, 43, 46, 53, 32], some (5, 1)), ([49, 50, 46], some (12, 0)),
      ([49, 44, 50, 51], some (123, 0)), ([48, 48, 55, 46, 48], some (70, 1)),
      ([45, 48, 46, 48, 48], some (0, 2)), ([44, 49, 50, 51], none),
      ([49, 44, 44, 50, 51, 52], none), ([46], none), ([32, 32], none), ([43, 45, 49], none),
      (46 :: List.replicate 15 57, some (999999999999999, 15)),
      (List.replicate 16 57, some (9999999999999999, 0))].all
        fun (e : List Nat × Option (Int × Nat)) => parsePrice e.1 = e.2) = true := by decide +kernel

/-- A rise with the digit option, an arrow drawn, no room for an arrow, and an equal text. -/
theorem witness_TickRewritesAndMarks :
    (meets .a (.tick 1 1 1 [48, 54] true true) = true ∧ meets .a (.tick 1 1 2 [54] false true) = true ∧
      meets .a (.tick 1 2 0 [32, 32, 32, 32] true true) = true) ∧ viewOne.Legal :=
  ⟨by decide +kernel, viewOne_legal⟩

theorem witness_GlyphCommandsChangeTheStore :
    ([Command.glyph 384 corner, .glyph 511 corner, .patch 0 0 corner, .patch 7 383 corner,
      .patchRows 7 corner, .patchCode 7 383, .unpatch 7].all fun c => written.freeFor .b c &&
        written.verdict .b c = none) = true := by decide +kernel

theorem witness_ReadGlyphAppendsABitmap :
    ([Command.readGlyph true 0 0, .readGlyph true 7 511, .readGlyph false 15 383,
      .readGlyph false 0 384, .readGlyph false 0 511].all fun c => written.freeFor .b c &&
        written.verdict .b c = none) = true := by decide +kernel

theorem witness_SettingsAndCursor :
    ([Command.palette 15 255 0 255, .staleColour 15, .blink 0, .blink 1, .blink 2, .blink 254,
      .blink 255, .wait, .cursor 1 511 511 15 0 2, .cursor 3 0 0 0 0 0].all fun c =>
        c.WellFormed && written.freeFor .a c && written.verdict .a c = none) = true := by
  decide +kernel

theorem witness_RampSetsOneStage :
    ([Command.ramp 2 3 .keep (.index 15) 0 0, .ramp 0 0 (.index 1) .keep 255 7].all fun c =>
      c.WellFormed && written.freeFor .b c && written.verdict .b c = none) = true := by decide +kernel

/-- TIMING and LOCK are free to run, locked or not, and a step under the lock answers. -/
theorem witness_TimingAndItsLock :
    (let locked : State := { ready with timingLock := true, pending := [.timing .c 3 9] }
    (Command.timing 3 31).WellFormed = true ∧ ready.freeFor .c (.timing 3 31) = true ∧
      locked.freeFor .c (.timing 3 31) = true ∧ ready.freeFor .a .lock = true ∧
      after (step locked) (fun t => t.timingLock) = true) := by decide +kernel

/-- Leftover lines below the last row of cells of height 13; a position off the panes; pane 3 ahead of
pane 1; a cell of pane 1 under a mark, with a glyph from the ROM. -/
theorem witness_CompositionFollowsItsSteps :
    (let low : State := { written with shownTiming := ⟨0, 13⟩ }
    (low.framesRun = true ∧ State.reset.framesRun = false) ∧
      1080 / 13 * 13 ≤ 1079 ∧ 16 < 1080 / 16 * 16 ∧ low.shownTiming.preset = 0 ∧
      (∀ p ∈ written.shownStack, (written.shownPane p).covers 0 0 = false) ∧
      ((written.shownPane 3).covers 2 1 = true ∧ (written.shownPane 1).covers 3 2 = true ∧
        (written.shownPane 3).covers 3 2 = false) ∧
      (ready.framesRun = true ∧ ready.frameCount = written.frameCount) ∧
      (after (runEvents [.clockLockAchieved .latchFirst] { ready with clock := .locking }) (fun t =>
        t.framesRun && ready.frameCount < t.frameCount) = true ∧
        after (runEvents [tintOne] ready) (fun t =>
          t.framesRun && t.frameCount = ready.frameCount) = true) ∧
      (written.marks.find? fun m => m.covers 11) = some ⟨11, 2, .down, 1, 4⟩ ∧
      (written.marks.find? fun m => m.covers 10) = none) := by decide +kernel

theorem witness_RetryWakeAndStandby :
    (ready.phase = .running ∧ ready.standby = false) ∧ asleep.standby = true ∧
      State.reset.phase ≠ .running := by decide

/-- A SHIFT stopped between the read and the write of a cell, and before a read. -/
theorem witness_PortResetStopsAndReleases :
    (let f : Flight := ⟨.a, waitWords, 1, [.store 1 1], some (letter 65), []⟩
    let s : State := { ready with flight := some f }
    (s.port .a).held = false ∧ (s.flight = some f ∧ f.port = .a ∧ f.todo = [.store 1 1] ∧ f.held = some (letter 65) ∧
      (s.pane f.pane).view.cellAddr 1 1 < Config.planeSize) ∧
      (s.flight.map Flight.port = some .a ∧ s.flight.map Flight.port ≠ some .b) ∧
      (ready.pane 1).owner = some .a) := by decide +kernel

/-! #### The laws -/

/-- `written` under the event `i`. -/
def under (i : Instr) : State := { written with pending := [i] }

/-- A step that answers a next state. -/
def answers (s : State) : Bool := after (step s) fun _ => true

theorem witness_StepKeepsThePlane :
    (under (.log .a 1 plain [65])).PlaneLaw ∧ answers (under (.log .a 1 plain [65])) = true := by
  decide +kernel

/-- `written` with a PLACE of port A half done. -/
def halfDone : State :=
  flying [.put 3 2 (letter 65) false, .advance 1] { written with pending := [.cellAccess] }

theorem halfDone_flight : halfDone.FlightLaw := by
  intro f h
  cases h
  intro m hm
  rcases List.mem_cons.1 hm with rfl | hm
  · exact ⟨by decide, by decide, by decide⟩
  · rcases List.mem_singleton.1 hm with rfl
    trivial

theorem halfDone_geometry : halfDone.GeometryLaw :=
  ⟨by decide +kernel, by decide +kernel⟩

theorem witness_StepKeepsGeometryAndNeverFaults : halfDone.GeometryLaw ∧ halfDone.FlightLaw :=
  ⟨halfDone_geometry, halfDone_flight⟩

theorem witness_StepKeepsRegionsAndStack :
    ((under (.define .b 2 { smallGeometry with base := 200 })).RegionLaw ∧
      (under (.lower .a 3)).StackLaw) ∧
      answers (under (.define .b 2 { smallGeometry with base := 200 })) = true ∧
      answers (under (.lower .a 3)) = true := by decide +kernel

theorem halfDone_marks : halfDone.MarkLaw := by
  refine ⟨by decide, ?_, by decide, by decide, by decide⟩
  show List.Pairwise _ [_]
  simp

theorem halfDone_tick : halfDone.TickLaw := by
  intro f h col row new digit hm
  cases h
  simp at hm

theorem witness_StepKeepsTheMarkTable :
    (halfDone.MarkLaw ∧ halfDone.TickLaw) ∧ (halfDone.GeometryLaw ∧ halfDone.FlightLaw) ∧
      answers halfDone = true :=
  ⟨⟨halfDone_marks, halfDone_tick⟩, ⟨halfDone_geometry, halfDone_flight⟩, by decide +kernel⟩

theorem witness_StepKeepsTheSettings :
    ((under (.patch .b 7 65 corner)).SlotLaw ∧ (under (.cursor .a 1 0 0 0 15 1)).TimerLaw) ∧
      (under (.cursor .a 1 0 0 0 15 1)).CursorLaw ∧ answers (under (.patch .b 7 65 corner)) = true ∧
      answers (under (.cursor .a 1 0 0 0 15 1)) = true := by decide +kernel

/-- The ports of `halfDone` are as at reset. -/
theorem halfDone_port (x : Port) : halfDone.port x = PortState.atReset := by
  cases x <;> rfl

theorem halfDone_records : halfDone.RecordLaw := by
  intro x
  rw [halfDone_port]
  decide

theorem halfDone_reservations : halfDone.ReservationLaw := by
  intro x h
  rw [halfDone_port] at h
  exact absurd rfl h

theorem halfDone_ready : halfDone.ReadyLaw := by
  refine ⟨fun x _ => ?_, fun x _ => ?_, by decide, by decide⟩ <;> rw [halfDone_port] <;> rfl

theorem witness_StepKeepsTheRecords :
    halfDone.RecordLaw ∧ halfDone.ReservationLaw ∧ (halfDone.ReadyLaw ∧ halfDone.ServedLaw) ∧
      answers halfDone = true :=
  ⟨halfDone_records, halfDone_reservations, ⟨halfDone_ready, rfl⟩, by decide +kernel⟩

theorem halfDone_buffers : halfDone.BufferLaw := by
  intro x
  rw [halfDone_port]
  decide

theorem halfDone_parity : halfDone.OutParityLaw := by
  intro x
  rw [halfDone_port]
  exact ⟨by simp [PortState.atReset], by simp [PortState.atReset], by simp [PortState.atReset]⟩

theorem witness_StepKeepsBuffersAndParity :
    halfDone.BufferLaw ∧ halfDone.OutParityLaw ∧ answers halfDone = true :=
  ⟨halfDone_buffers, halfDone_parity, by decide +kernel⟩

end Sys2Proof.Tests
end

section
/-! ### The row map of a pane (R41, R42) -/

namespace Sys2Proof.Machine

variable {v : PaneView}

/-! #### What a legal geometry gives -/

theorem PaneView.Legal.width_le_pitch (h : v.Legal) : v.width ≤ v.pitch := by
  obtain ⟨-, -, -, -, -, -, -, -, -, hw, -⟩ := h
  exact hw

theorem PaneView.Legal.height_le_ringLines (h : v.Legal) : v.height ≤ v.ringLines := by
  obtain ⟨-, -, -, -, -, -, -, -, -, -, hh, -⟩ := h
  exact hh

theorem PaneView.Legal.frozen_le_height (h : v.Legal) : v.frozen ≤ v.height := by
  obtain ⟨-, -, -, -, -, -, -, -, -, -, -, hf, -⟩ := h
  exact hf

/-- The region lies in the plane (R22). -/
theorem PaneView.Legal.region_le (h : v.Legal) : v.base + v.pitch * v.ringLines ≤ Config.planeSize := by
  obtain ⟨-, -, -, -, -, -, -, -, -, -, -, -, hr, -⟩ := h
  exact hr

/-- A pane with a scrolling row has a ring proper. -/
theorem PaneView.Legal.frozen_lt_ringLines (h : v.Legal) {r : Nat} (hf : v.frozen ≤ r)
    (hr : r < v.height) : v.frozen < v.ringLines := by
  have := h.height_le_ringLines
  omega

/-! #### The line of a row -/

theorem PaneView.lineOf_frozen {r : Nat} (h : r < v.frozen) : v.lineOf r = r := if_pos h

theorem PaneView.lineOf_scrolling {r : Nat} (h : v.frozen ≤ r) :
    v.lineOf r = v.ringLine (r - v.frozen) := if_neg (by omega)

/-- A row of a pane maps to one of its lines. -/
theorem PaneView.Legal.lineOf_lt (h : v.Legal) {r : Nat} (hr : r < v.height) :
    v.lineOf r < v.ringLines := by
  have := h.height_le_ringLines
  rcases Nat.lt_or_ge r v.frozen with hf | hf
  · rw [PaneView.lineOf_frozen hf]
    omega
  · rw [PaneView.lineOf_scrolling hf]
    exact (v.ringLine_lt _ (h.frozen_lt_ringLines hf hr)).2

/-- Positions of one turn round the ring are on different lines. -/
theorem PaneView.ringLine_inj {k l : Nat} (hk : k < v.ringSize) (hl : l < v.ringSize)
    (h : v.ringLine k = v.ringLine l) : k = l := by
  unfold PaneView.ringLine at h
  have hmod : (v.top - v.frozen) + k ≡ (v.top - v.frozen) + l [MOD v.ringSize] :=
    Nat.add_left_cancel h
  exact (Nat.ModEq.add_left_cancel' _ hmod).eq_of_lt_of_lt hk hl

/-- The rows of a pane are on different lines: a frozen one on its own, which no ring line is, the others
within one turn of the ring. -/
theorem PaneView.Legal.lineOf_inj (h : v.Legal) {r q : Nat} (hr : r < v.height) (hq : q < v.height)
    (he : v.lineOf r = v.lineOf q) : r = q := by
  have ring : ∀ {r : Nat}, v.frozen ≤ r → r < v.height →
      v.frozen ≤ v.ringLine (r - v.frozen) ∧ r - v.frozen < v.ringSize := fun hf hr => by
    have := h.height_le_ringLines
    refine ⟨(v.ringLine_lt _ (h.frozen_lt_ringLines hf hr)).1, ?_⟩
    unfold PaneView.ringSize
    omega
  rcases Nat.lt_or_ge r v.frozen with hrf | hrf <;> rcases Nat.lt_or_ge q v.frozen with hqf | hqf
  · rwa [PaneView.lineOf_frozen hrf, PaneView.lineOf_frozen hqf] at he
  · rw [PaneView.lineOf_frozen hrf, PaneView.lineOf_scrolling hqf] at he
    have := (ring hqf hq).1
    omega
  · rw [PaneView.lineOf_scrolling hrf, PaneView.lineOf_frozen hqf] at he
    have := (ring hrf hr).1
    omega
  · rw [PaneView.lineOf_scrolling hrf, PaneView.lineOf_scrolling hqf] at he
    have := PaneView.ringLine_inj (ring hrf hr).2 (ring hqf hq).2 he
    omega

/-! #### The address of a cell -/

/-- A line and column of a legal pane's region are at an address of the plane (R3). -/
theorem PaneView.Legal.lineAddr_lt_plane (h : v.Legal) {line col : Nat} (hl : line < v.ringLines)
    (hc : col < v.pitch) : v.lineAddr line col < Config.planeSize :=
  Nat.lt_of_lt_of_le (v.lineAddr_lt line col hl hc).2 h.region_le

/-- A cell in a legal pane's rows and columns is at an address of the plane (R3). -/
theorem PaneView.Legal.cellAddr_lt_plane (h : v.Legal) {col r : Nat} (hc : col < v.width)
    (hr : r < v.height) : v.cellAddr col r < Config.planeSize :=
  h.lineAddr_lt_plane (h.lineOf_lt hr) (Nat.lt_of_lt_of_le hc h.width_le_pitch)

/-- The columns of two lines are at different addresses. -/
theorem PaneView.lineAddr_inj {k l c d : Nat} (hc : c < v.pitch) (hd : d < v.pitch)
    (h : v.lineAddr k c = v.lineAddr l d) : k = l ∧ c = d := by
  unfold PaneView.lineAddr at h
  have hp : 0 < v.pitch := by omega
  have he : c + v.pitch * k = d + v.pitch * l := by
    rw [Nat.mul_comm, Nat.mul_comm v.pitch]
    omega
  have hdiv := congrArg (· / v.pitch) he
  have hmod := congrArg (· % v.pitch) he
  simp only [Nat.add_mul_div_left _ _ hp, Nat.div_eq_of_lt hc, Nat.div_eq_of_lt hd,
    Nat.add_mul_mod_self_left, Nat.mod_eq_of_lt hc, Nat.mod_eq_of_lt hd, Nat.zero_add] at hdiv hmod
  exact ⟨hdiv, hmod⟩

/-- The cells in a legal pane's rows and columns are at different addresses. -/
theorem PaneView.Legal.cellAddr_inj (h : v.Legal) {c d r q : Nat} (hc : c < v.width)
    (hd : d < v.width) (hr : r < v.height) (hq : q < v.height)
    (he : v.cellAddr c r = v.cellAddr d q) : c = d ∧ r = q := by
  have hw := h.width_le_pitch
  obtain ⟨hl, hcd⟩ := PaneView.lineAddr_inj (by omega) (by omega) he
  exact ⟨hcd, h.lineOf_inj hr hq hl⟩

/-! #### The top line moved (R42) -/

/-- A position of the moved ring is the position as far on in the ring before. -/
theorem PaneView.ringLine_advanced (h : v.frozen < v.ringLines) (c k : Nat) :
    (v.advanced c).ringLine k = v.ringLine (c + k) := by
  have hs : (v.advanced c).ringSize = v.ringSize ∧ (v.advanced c).frozen = v.frozen ∧
      (v.advanced c).top = v.ringLine c := by
    rw [PaneView.advanced, if_pos h]
    exact ⟨rfl, rfl, rfl⟩
  obtain ⟨hsize, hfrozen, htop⟩ := hs
  have hdrop : v.ringLine c - v.frozen = ((v.top - v.frozen) + c) % v.ringSize :=
    Nat.add_sub_cancel_left ..
  rw [PaneView.ringLine, hsize, hfrozen, htop, hdrop, Nat.mod_add_mod, Nat.add_assoc]
  rfl

theorem PaneView.advanced_frozen (c : Nat) : (v.advanced c).frozen = v.frozen := by
  unfold PaneView.advanced
  split <;> rfl

/-- Moving the top line by `c` moves the scrolling rows up by `c`: row `r` shows the line that row `r + c`
showed, and past the last row the lines that follow it round the ring. -/
theorem PaneView.lineOf_advanced (h : v.frozen < v.ringLines) {c r : Nat} (hf : v.frozen ≤ r) :
    (v.advanced c).lineOf r = v.lineOf (r + c) := by
  have hsum : c + (r - v.frozen) = r + c - v.frozen := by omega
  rw [PaneView.lineOf_scrolling (v.advanced_frozen c ▸ hf), v.advanced_frozen,
    PaneView.ringLine_advanced h, hsum, PaneView.lineOf_scrolling (by omega)]

/-- Settles O33, from the lemmas on the line of a row and the address of a cell. -/
theorem rowMapStaysInsideTheRegion : Obligations.RowMapStaysInsideTheRegion := by
  intro v h
  refine ⟨fun r hr => h.lineOf_lt hr, fun r hr => PaneView.lineOf_frozen hr,
    fun r q hr hq he => h.lineOf_inj hr hq he, fun col r hc hr => ?_, fun c r hf hr => ?_,
    fun hf => ?_⟩
  · obtain ⟨hbase, hend⟩ := v.lineAddr_lt _ col (h.lineOf_lt hr)
      (Nat.lt_of_lt_of_le hc h.width_le_pitch)
    exact ⟨hbase, hend, h.cellAddr_lt_plane hc hr⟩
  · exact PaneView.lineOf_advanced (h.frozen_lt_ringLines hf (by omega)) hf
  · have hrow : v.frozen ≤ v.height - 1 := by omega
    have hnext : v.height - 1 + 1 - v.frozen = v.scrollRows := by
      unfold PaneView.scrollRows
      omega
    rw [PaneView.lineOf_advanced (h.frozen_lt_ringLines hrow (by omega)) hrow,
      PaneView.lineOf_scrolling (by omega), hnext, PaneView.entering]

end Sys2Proof.Machine
end

section
/-! ### Laws that no line of the part touches

A law about the stores alone is kept by a step when the few operations that reach a store keep it: grants, steps
of the engine, the resets, the clear of the plane and the frame start. -/

namespace Sys2Proof.Machine

/-- A law of the stores: the ports, the lines and the queue of events have no part in it, and each operation
of the part that reaches a store keeps it. -/
structure StoreLaw (P : State → Prop) : Prop where
  lines : ∀ s phase standby clock ports pending, P s → P { s with
    phase := phase, standby := standby, clock := clock, ports := ports, pending := pending }
  grant : ∀ s x, P s → s.arbiterPick = some x → P (grantTo x s)
  engine : ∀ s t, P s → engineStep s = .next t → P t
  powerOn : ∀ osel tsel s, P s → P (onPowerOnReset osel tsel s)
  endFlight : ∀ s, P s → P { s with flight := none, grantPtr := .c }
  clearPlane : ∀ s, P s → P { s with plane := [] }
  frame : ∀ o s, P s → P (s.frameStart o)
  portReset : ∀ x s, P s → P (((s.abortFlight x).dropCursor x).releaseAll x)

namespace StoreLaw

variable {P : State → Prop} (law : StoreLaw P)

include law

/-- A law of the stores does not see a port replaced. -/
theorem setPort (s : State) (x : Port) (p : PortState) (hs : P s) : P (s.setPort x p) :=
  law.lines s _ _ _ _ _ hs

/-- FRAME_START keeps a law of the stores. -/
theorem onFrameStart (o : LatchOrder) (s : State) (hs : P s) : P (onFrameStart o s) := by
  unfold Machine.onFrameStart
  split
  · exact law.frame o s hs
  · exact hs

theorem onTransferStart (x : Port) (s : State) (hs : P s) : P (onTransferStart x s) := by
  obtain ⟨p, e⟩ := onTransferStart_eq s x
  exact e ▸ law.setPort s x p hs

theorem onWordSampled (x : Port) (w : Word) (s : State) (hs : P s) : P (onWordSampled x w s) := by
  obtain ⟨p, e⟩ := onWordSampled_port s x w
  exact e ▸ law.setPort s x p hs

theorem onTransferEnd (x : Port) (k : Fin 16) (s : State) (hs : P s) : P (onTransferEnd x k s) := by
  obtain ⟨p, e⟩ := onTransferEnd_eq s x k
  exact e ▸ law.setPort s x p hs

/-- PLANE_CLEAR_COMPLETE clears the plane, and may be a frame start. -/
theorem onClearComplete (o : LatchOrder) (s : State) (hs : P s) : P (onClearComplete o s) := by
  unfold Machine.onClearComplete
  split
  · exact law.onFrameStart o _ (law.lines _ .running s.standby s.clock s.ports s.pending
      (law.clearPlane s hs))
  · exact hs

/-- CLOCK_LOCK_ACHIEVED moves the clock, and may be a frame start. -/
theorem onLockAchieved (o : LatchOrder) (s : State) (hs : P s) : P (onLockAchieved o s) := by
  unfold Machine.onLockAchieved
  split
  · exact law.onFrameStart o _ (law.lines s s.phase s.standby .locked s.ports s.pending hs)
  · exact hs

theorem onLossOfLock (s : State) (hs : P s) : P (onLossOfLock s) := by
  unfold Machine.onLossOfLock
  split
  · exact law.lines s _ _ _ _ _ hs
  · exact hs

theorem onWakePulse (s : State) (hs : P s) : P (onWakePulse s) := by
  unfold Machine.onWakePulse
  split
  · exact law.lines s _ _ _ _ _ hs
  · exact hs

theorem onStandbyEntry (s : State) (hs : P s) : P (onStandbyEntry s) := by
  unfold Machine.onStandbyEntry
  split
  · exact law.lines s _ _ _ _ _ hs
  · exact hs

theorem onStandbyExit (s : State) (hs : P s) : P (onStandbyExit s) := by
  unfold Machine.onStandbyExit
  split
  · exact law.lines s _ _ _ _ _ hs
  · exact hs

/-- PORT_RESET of a port that is not held reaches the flight, the cursor and the owners. -/
theorem onPortReset (x : Port) (s : State) (hs : P s) : P (onPortReset x s) := by
  unfold Machine.onPortReset
  split
  · exact hs
  · exact law.setPort _ x _ (law.portReset x s hs)

/-- RESET_ASSERTION ends the command in flight and moves the lines. -/
theorem onResetAssertion (s : State) (hs : P s) : P (onResetAssertion s) :=
  law.lines _ .inReset false .stopped _ s.pending (law.endFlight s hs)

/-- The arbiter's searches keep a law of the stores. -/
theorem arbitrate (s : State) (hs : P s) : P s.arbitrate := State.arbitrate_keeps law.grant s hs

/-- A whole transfer keeps a law of the stores. -/
theorem sendWords (x : Port) (ws : List Word) (s : State) (hs : P s) : P (sendWords x ws s) := by
  have words : ∀ (ws : List Word) (u : State), P u →
      P (ws.foldl (fun t w => (Machine.onWordSampled x w t).arbitrate) u) := by
    intro ws
    induction ws with
    | nil => exact fun u hu => hu
    | cons w ws ih => exact fun u hu => ih _ (law.arbitrate _ (law.onWordSampled x w u hu))
  unfold Machine.sendWords
  split
  · exact hs
  · exact law.arbitrate _ (law.onTransferEnd x 0 _ (words ws _ (law.onTransferStart x s hs)))

/-- An event keeps a law of the stores. -/
theorem exec {s t : State} (i : Instr) (hs : P s) (h : exec i s = .next t) : P t :=
  exec_keeps law.onTransferStart law.onWordSampled law.onTransferEnd law.grant law.engine law.powerOn
    law.onResetAssertion law.onClearComplete law.onLockAchieved law.onLossOfLock law.onFrameStart
    (fun x s => law.setPort s x _) law.onPortReset (fun x s => law.setPort s x _) law.onWakePulse
    law.onStandbyEntry law.onStandbyExit i hs h

/-- A step keeps a law of the stores. -/
theorem step {s t : State} (hs : P s) (h : step s = .next t) : P t := by
  unfold Machine.step at h
  split at h
  · exact Host.Outcome.next.inj h ▸ hs
  · exact law.exec _ (law.lines s s.phase s.standby s.clock s.ports _ hs) h

/-! ### Answers -/

/-- A run of the engine answers where each of its steps does. -/
theorem engineSteps_answers (answers : ∀ s, P s → ∃ t, engineStep s = .next t) :
    ∀ (n : Nat) (s : State), P s → ∃ t, engineSteps n s = .next t := by
  intro n
  induction n with
  | zero => exact fun s _ => ⟨s, rfl⟩
  | succ n ih =>
    intro s hs
    obtain ⟨u, hu⟩ := answers s hs
    simp only [engineSteps, hu]
    exact ih u (law.engine s u hs hu)

/-- An event answers a next state where the steps of the engine do. -/
theorem exec_answers (answers : ∀ s, P s → ∃ t, engineStep s = .next t) (i : Instr) (s : State)
    (hs : P s) : ∃ t, Machine.exec i s = .next t := by
  have engine : ∃ t, thenArbitrate (engineStep s) = .next t := by
    obtain ⟨u, hu⟩ := answers s hs
    exact ⟨u.arbitrate, by rw [hu]; rfl⟩
  cases hc : i.command with
  | some xc =>
    obtain ⟨x, c⟩ := xc
    rw [exec_command hc]
    simp only [sendCommand]
    split
    · obtain ⟨u, hu⟩ := law.engineSteps_answers answers
        (Machine.sendWords x (encodeCommand c) s).stepsLeft _
        (law.sendWords x (encodeCommand c) s hs)
      exact ⟨u.arbitrate, by rw [finishFlight, hu]; rfl⟩
    · exact ⟨_, rfl⟩
  | none =>
    cases i
    case cellAccess => exact engine
    case commandCompletion =>
      simp only [Machine.exec, execCompletion]
      split
      · exact engine
      · exact ⟨s, rfl⟩
    all_goals first
      | exact ⟨_, rfl⟩
      | simp only [Instr.command, reduceCtorEq] at hc

/-- A step answers a next state, and keeps the law, where the steps of the engine answer. -/
theorem step_answers (answers : ∀ s, P s → ∃ t, engineStep s = .next t) (s : State) (hs : P s) :
    ∃ t, Machine.step s = .next t ∧ P t := by
  have next : ∃ t, Machine.step s = .next t := by
    unfold Machine.step
    split
    · exact ⟨s, rfl⟩
    · exact law.exec_answers answers _ _ (law.lines s s.phase s.standby s.clock s.ports _ hs)
  obtain ⟨t, ht⟩ := next
  exact ⟨t, ht, law.step hs ht⟩

end StoreLaw

end Sys2Proof.Machine
end

section
/-! ### What a command's first event and each of its steps do to the plane -/

namespace Sys2Proof.Machine

variable (s : State)

/-! #### Taking a command with its steps -/

@[simp] theorem State.takeFlight_plane (x : Port) (cut : Bool) (todo : List Micro) :
    (s.takeFlight x cut todo).plane = s.plane := by simp [State.takeFlight]
@[simp] theorem State.takeFlight_panes (x : Port) (cut : Bool) (todo : List Micro) :
    (s.takeFlight x cut todo).panes = s.panes := by simp [State.takeFlight]
@[simp] theorem State.takeFlight_shownPanes (x : Port) (cut : Bool) (todo : List Micro) :
    (s.takeFlight x cut todo).shownPanes = s.shownPanes := by simp [State.takeFlight]
@[simp] theorem State.takeFlight_flight (x : Port) (cut : Bool) (todo : List Micro) :
    (s.takeFlight x cut todo).flight = s.flight.map fun f => { f with todo := todo } := by
  simp [State.takeFlight]

/-! #### The first event of a command -/

/-- The first event of a command writes no cell: the commands that do write leave it to their steps
(R87). -/
theorem startCommand_plane (x : Port) (c : Command) : (startCommand x c s).plane = s.plane := by
  cases c
  all_goals
    simp only [startCommand, engineDefine, engineShow, engineHide, engineDrop, engineClaim,
      engineRelease, engineRaise, engineLower, engineBehind, engineSetTop, beginRoll, beginLog,
      beginPlace, beginSweep, beginShift, beginTint, beginTick, beginReadCells, engineWait,
      engineGlyph, enginePatch, enginePatchRows, enginePatchCode, engineUnpatch, engineReadGlyph,
      enginePalette, engineRamp, engineStaleColour, engineBlink, engineCursor, engineTiming,
      engineLock]
  all_goals repeat' split
  all_goals simp

/-- The beginning of a command writes no cell. -/
theorem beginCommand_plane (x : Port) (c : Command) : (beginCommand x c s).plane = s.plane := by
  unfold beginCommand
  rcases State.completeIfDone_cases (startCommand x c s) x with h | h <;> rw [h]
  · exact startCommand_plane s x c
  · exact startCommand_plane s x c

/-- A grant writes no cell. -/
theorem grantTo_plane (x : Port) : (grantTo x s).plane = s.plane := by
  rcases grantTo_cases x s with ⟨-, e⟩ | ⟨w, rest, -, ⟨-, e⟩ | ⟨c, -, e⟩⟩ <;> rw [e]
  · rfl
  · exact beginCommand_plane _ x c

/-! #### A step of the command in flight -/

/-- A step leaves the plane, or writes the one cell whose address it forms (R94). -/
theorem Micro.effect_plane (f : Flight) (m : Micro) :
    (m.effect f s).plane = s.plane ∨
      ∃ a c, m.address (s.pane f.pane).view = some a ∧ (m.effect f s).plane = s.plane.write a c := by
  cases m <;> simp only [Micro.effect, Micro.address]
  case put col row cell override =>
    split
    · exact .inl rfl
    · exact .inr ⟨_, _, rfl, rfl⟩
  case store col row =>
    split
    · exact .inr ⟨_, _, rfl, rfl⟩
    · exact .inl rfl
  case arrow col row new =>
    split
    · exact .inl rfl
    · exact .inr ⟨_, _, rfl, rfl⟩
  case markEvent col row new digit => split <;> exact .inl rfl
  case discard => exact .inl (by simp)
  case tint | clearCell | text | putCode => exact .inr ⟨_, _, rfl, rfl⟩
  case load | readOld => exact .inl trivial
  case read | advance | readBitmap | refuse => exact .inl rfl

/-- A step done leaves the plane its effect leaves. -/
theorem State.stepDone_plane (f : Flight) (m : Micro) (rest : List Micro) :
    (s.stepDone f m rest).plane = (m.effect f s).plane := by
  simp only [State.stepDone]
  split <;> rfl

/-! #### The law of the plane -/

/-- A write at an address the plane has keeps its law. -/
theorem Plane.write_law {m : Plane} {a : Nat} (c : Cell) (ha : a < Config.planeSize)
    (h : m.wf = true ∧ ∀ e ∈ m, e.1 < Config.planeSize) :
    (m.write a c).wf = true ∧ ∀ e ∈ m.write a c, e.1 < Config.planeSize :=
  ⟨Plane.write_wf a c h.1, Plane.write_range c _ ha h.2⟩

variable {s} {t : State}

/-- The law of the plane is about the plane alone. -/
theorem State.PlaneLaw.congr (hs : s.PlaneLaw) (h : t.plane = s.plane) : t.PlaneLaw := by
  unfold State.PlaneLaw
  rwa [h]

/-- A step of a command whose address, if it forms one, is one of the plane's keeps the law. -/
theorem State.PlaneLaw.effect (hs : s.PlaneLaw) (f : Flight) (m : Micro)
    (ha : ∀ a, m.address (s.pane f.pane).view = some a → a < Config.planeSize) :
    (m.effect f s).PlaneLaw := by
  rcases Micro.effect_plane s f m with e | ⟨a, c, hm, e⟩
  · exact hs.congr e
  · unfold State.PlaneLaw
    rw [e]
    exact Plane.write_law c (ha a hm) hs

/-- The engine keeps the law of the plane: it stops before an address the plane does not have. -/
theorem State.PlaneLaw.engineStep (hs : s.PlaneLaw) (h : engineStep s = .next t) : t.PlaneLaw := by
  rcases engineStep_next h with ⟨-, rfl⟩ | ⟨f, -, -, rfl⟩ | ⟨f, m, rest, -, -, ha, rfl⟩
  · exact hs
  · exact hs
  · exact (hs.effect f m ha).congr (State.stepDone_plane s f m rest)

/-- The stop of a port's command writes at most the cell a SHIFT has read, at an address of the plane
(R108). -/
theorem State.PlaneLaw.abortFlight (hs : s.PlaneLaw) (x : Port) : (s.abortFlight x).PlaneLaw := by
  unfold State.abortFlight
  split
  · exact hs
  · rename_i f _
    split
    · exact hs
    · split
      · rename_i col row _ _
        split
        · rename_i hlt
          exact hs.effect f (.store col row) fun a ha => by
            simp only [Micro.address, Option.some.injEq] at ha
            exact ha ▸ hlt
        · exact hs
      · exact hs

/-- Turning the cursor off writes no cell. -/
theorem State.dropCursor_plane (s : State) (x : Port) : (s.dropCursor x).plane = s.plane := by
  unfold State.dropCursor
  split <;> rfl

/-- A frame start leaves the plane and the command in flight, and does to the pane table what its latch
does (R17, R152). -/
theorem State.frameStart_stores (s : State) (o : LatchOrder) :
    (s.frameStart o).plane = s.plane ∧ (s.frameStart o).flight = s.flight ∧
      (s.frameStart o).panes = s.latchPanes.panes ∧
      (s.frameStart o).shownPanes = s.latchPanes.shownPanes := by
  cases o <;>
    simp only [State.frameStart, State.latchPanes, State.latchAndAge, State.latchColours,
      State.ageMarks, State.latchCursor, State.blinkFrame, State.clearWaiting, State.latchTiming,
      State.countFrame, and_self]

/-- The law of the plane is a law of the stores. -/
theorem planeLaw_storeLaw : StoreLaw State.PlaneLaw where
  lines := fun _ _ _ _ _ _ hs => hs
  grant := fun s x hs _ => hs.congr (grantTo_plane s x)
  engine := fun _ _ hs h => hs.engineStep h
  powerOn := fun _ _ _ _ => ⟨rfl, by simp [onPowerOnReset, State.reset]⟩
  endFlight := fun _ hs => hs
  clearPlane := fun _ _ => ⟨rfl, by simp⟩
  frame := fun o s hs => hs.congr (State.frameStart_stores s o).1
  portReset := fun x s hs => (hs.abortFlight x).congr (State.dropCursor_plane (s.abortFlight x) x)

/-- Settles O53: the law of the plane is a law of the stores. -/
theorem stepKeepsThePlane : Obligations.StepKeepsThePlane :=
  fun _ _ hs h => planeLaw_storeLaw.step hs h

end Sys2Proof.Machine
end

section
/-! ### The geometry of the panes and the steps of the command in flight (R3, R22) -/

namespace Sys2Proof.Machine

/-! #### A legal geometry as the top line moves -/

/-- A legal geometry stays legal with any top line of its ring and any fine offset of four bits (R22). -/
theorem PaneView.Legal.withTop {v : PaneView} (h : v.Legal) {top fine : Nat} (hfine : fine ≤ 15)
    (htop : if v.ringLines = v.frozen then top = v.frozen
      else v.frozen ≤ top ∧ top ≤ v.ringLines - 1) :
    PaneView.Legal { v with top := top, fine := fine } := by
  obtain ⟨h1, h2, h3, h4, h5, h6, h7, h8, -, h10, h11, h12, h13, -⟩ := h
  exact ⟨h1, h2, h3, h4, h5, h6, h7, h8, hfine, h10, h11, h12, h13, htop⟩

theorem PaneView.Legal.fine_le {v : PaneView} (h : v.Legal) : v.fine ≤ 15 := by
  obtain ⟨-, -, -, -, -, -, -, -, hfine, -⟩ := h
  exact hfine

/-- The top line moved round the ring stays on a line of the ring. -/
theorem PaneView.Legal.advanced {v : PaneView} (h : v.Legal) (c : Nat) : (v.advanced c).Legal := by
  unfold PaneView.advanced
  split
  · rename_i hlt
    obtain ⟨hlow, hhigh⟩ := v.ringLine_lt c hlt
    exact h.withTop h.fine_le (by rw [if_neg (by omega)]; omega)
  · exact h

/-- A moved top line changes no other field. -/
theorem PaneView.advanced_eq (v : PaneView) (c : Nat) :
    v.advanced c = { v with top := (v.advanced c).top } := by
  unfold PaneView.advanced
  split <;> rfl

/-- Whether a step fits a pane is a matter of the pane's state, its extents and its region's. -/
theorem Micro.fits.congr {m : Micro} {r q : Pane} (h : m.fits r)
    (hstate : q.view.state = r.view.state) (hwidth : q.view.width = r.view.width)
    (hheight : q.view.height = r.view.height) (hlines : q.view.ringLines = r.view.ringLines)
    (hpitch : q.view.pitch = r.view.pitch) : m.fits q := by
  have hd : q.defined = r.defined := by simp only [Pane.defined, hstate]
  cases m
  case advance | discard | readBitmap | refuse => trivial
  all_goals
    simpa only [Micro.fits, Pane.holds, Pane.holdsOnLine, hd, hwidth, hheight, hlines, hpitch] using h

/-- A step that fits a pane of legal geometry forms an address of the plane. -/
theorem Micro.fits.address_lt {m : Micro} {r : Pane} (h : m.fits r)
    (hl : r.defined = true → r.view.Legal) {a : Nat} (ha : m.address r.view = some a) :
    a < Config.planeSize := by
  have cell : ∀ {col row : Nat}, r.holds col row → r.view.cellAddr col row < Config.planeSize :=
    fun ⟨hd, hc, hr⟩ => (hl hd).cellAddr_lt_plane hc hr
  have line : ∀ {line col : Nat}, r.holdsOnLine line col →
      r.view.lineAddr line col < Config.planeSize :=
    fun ⟨hd, hn, hc⟩ => (hl hd).lineAddr_lt_plane hn hc
  cases m <;> simp only [Micro.address, Option.some.injEq, reduceCtorEq] at ha <;> subst ha
  case clearCell | text => exact line h
  all_goals exact cell h

/-! #### The steps of each command fit the pane it names -/

section StepsFit

variable {r : Pane} (hd : r.defined = true) (hl : r.view.Legal)

include hd

/-- A whole-line clear stays on its line. -/
theorem clearSteps_fits {line : Nat} (h : line < r.view.ringLines) :
    ∀ m ∈ clearSteps r.view line, m.fits r := by
  intro m hm
  obtain ⟨col, hcol, rfl⟩ := List.mem_map.mp hm
  exact ⟨hd, h, List.mem_range.mp hcol⟩

theorem rollSteps_fits (h : r.view.frozen < r.view.ringLines) (c : Nat) :
    ∀ m ∈ rollSteps r.view c, m.fits r := by
  intro m hm
  rcases List.mem_append.mp hm with hm | hm
  · obtain ⟨i, -, hm⟩ := List.mem_flatMap.mp hm
    exact clearSteps_fits hd (r.view.ringLine_lt _ h).2 m hm
  · rw [List.mem_singleton.mp hm]
    trivial

/-- SWEEP and TINT reach only cells of the pane. -/
theorem holds_of_mem_clippedCells {col row w h : Nat} {e : Nat × Nat}
    (he : e ∈ r.view.clippedCells col row w h) : r.holds e.1 e.2 := by
  obtain ⟨hc, hr⟩ := mem_rectCells.mp he
  unfold clipped at hc hr
  exact ⟨hd, by omega, by omega⟩

theorem sweepSteps_fits (row col w h : Nat) (cell : Cell) (override : Bool) :
    ∀ m ∈ sweepSteps r.view row col w h cell override, m.fits r := by
  intro m hm
  obtain ⟨e, he, rfl⟩ := List.mem_map.mp hm
  exact holds_of_mem_clippedCells hd he

theorem tintSteps_fits (row col w h : Nat) (attr : Attr) (mask : AttrMask) :
    ∀ m ∈ tintSteps r.view row col w h attr mask, m.fits r := by
  unfold tintSteps
  split
  · simp
  · intro m hm
    obtain ⟨e, he, rfl⟩ := List.mem_map.mp hm
    exact holds_of_mem_clippedCells hd he

theorem placeSteps_fits {row : Nat} (hrow : row < r.view.height) (col : Nat) (attr : Attr)
    (codes : List Code) : ∀ m ∈ placeSteps r.view row col attr codes, m.fits r := by
  intro m hm
  obtain ⟨e, he, rfl⟩ := List.mem_map.mp hm
  have hi := List.snd_lt_of_mem_zipIdx he
  rw [List.length_take] at hi
  exact ⟨hd, by omega, hrow⟩

theorem readSteps_fits {row : Nat} (hrow : row < r.view.height) (col n : Nat) :
    ∀ m ∈ readSteps r.view row col n, m.fits r := by
  intro m hm
  obtain ⟨i, hi, rfl⟩ := List.mem_map.mp hm
  have hi := List.mem_range.mp hi
  unfold clipped at hi
  exact ⟨hd, by omega, hrow⟩

omit hd in
/-- An offset of a SHIFT's copy lies in the copy, whatever the order it is visited in. -/
theorem lt_of_mem_shiftOffsets {srow scol drow dcol w h : Nat} {e : Nat × Nat}
    (he : e ∈ shiftOffsets srow scol drow dcol w h) : e.1 < w ∧ e.2 < h := by
  obtain ⟨j, hj, he⟩ := List.mem_flatMap.mp he
  obtain ⟨i, hi, rfl⟩ := List.mem_map.mp he
  constructor
  · split at hi <;> simpa using hi
  · split at hj <;> simpa using hj

theorem shiftSteps_fits (srow scol drow dcol w h : Nat) :
    ∀ m ∈ shiftSteps r.view srow scol drow dcol w h, m.fits r := by
  intro m hm
  obtain ⟨e, he, hm⟩ := List.mem_flatMap.mp hm
  obtain ⟨hw, hh⟩ := lt_of_mem_shiftOffsets he
  unfold shiftWidth at hw
  unfold shiftHeight at hh
  rcases List.mem_pair.mp hm with rfl | rfl <;> exact ⟨hd, by omega, by omega⟩

/-- A TICK reads and writes its field, and the arrow's cell ahead of it. -/
theorem tickSteps_fits {row col : Nat} (codes : List Code) (digit arrow : Bool)
    (hrow : row < r.view.height) (hcol : col + codes.length ≤ r.view.width) :
    ∀ m ∈ tickSteps row col codes digit arrow, m.fits r := by
  intro m hm
  simp only [tickSteps, List.mem_append, List.mem_map, List.mem_range, List.mem_singleton] at hm
  rcases hm with ((⟨i, hi, rfl⟩ | ⟨e, he, rfl⟩) | rfl) | hm
  · exact ⟨hd, by omega, hrow⟩
  · have := List.snd_lt_of_mem_zipIdx he
    exact ⟨hd, by omega, hrow⟩
  · exact ⟨hd, hcol, hrow⟩
  · split at hm
    · rename_i h
      simp only [Bool.and_eq_true, decide_eq_true_eq] at h
      rw [List.mem_singleton.mp hm]
      exact ⟨hd, by omega, hrow⟩
    · simp at hm

include hl in
/-- A LOG clears the entering line and writes its first columns. -/
theorem logSteps_fits (h : r.view.frozen < r.view.ringLines) (attr : Attr) (codes : List Code) :
    ∀ m ∈ logSteps r.view attr codes, m.fits r := by
  have hline : r.view.entering < r.view.ringLines := (r.view.ringLine_lt _ h).2
  intro m hm
  simp only [logSteps, List.mem_append, List.mem_map, List.mem_singleton] at hm
  rcases hm with ((hm | ⟨e, he, rfl⟩) | hm) | rfl
  · exact clearSteps_fits hd hline m hm
  · have hi := List.snd_lt_of_mem_zipIdx he
    have := hl.width_le_pitch
    rw [List.length_take] at hi
    exact ⟨hd, hline, by omega⟩
  · split at hm
    · rw [List.mem_singleton.mp hm]
      trivial
    · simp at hm
  · trivial

end StepsFit

/-! #### What the first event of a command does to the panes and the steps -/

/-- What the first event of a command that names pane `p` may leave of the panes and the command in
flight: both as they are, the pane's record replaced by one of legal geometry, or steps that fit the
pane. -/
inductive StartsAs (s : State) (p : PaneId) (t : State) : Prop
  | same (shown : t.shownPanes = s.shownPanes) (panes : t.panes = s.panes)
      (flight : t.flight = s.flight)
  | record (shown : t.shownPanes = s.shownPanes) (r : Pane) (panes : t.panes = (s.setPane p r).panes)
      (flight : t.flight = s.flight) (legal : r.defined = true → r.view.Legal)
  | steps (shown : t.shownPanes = s.shownPanes) (panes : t.panes = s.panes) (todo : List Micro)
      (flight : t.flight = s.flight.map fun f => { f with todo := todo })
      (fits : ∀ m ∈ todo, m.fits (s.pane p))

namespace StartsAs

variable {s : State} {p : PaneId}

/-- A refused command has the recording of its refusal left. -/
theorem refusing (code : RefusalCode) : StartsAs s p (s.refusing code) :=
  .steps rfl rfl [.refuse code] rfl fun m hm => by rw [List.mem_singleton.mp hm]; trivial

theorem takeFlight {x : Port} {cut : Bool} {todo : List Micro}
    (h : ∀ m ∈ todo, m.fits (s.pane p)) : StartsAs s p (s.takeFlight x cut todo) :=
  .steps (by simp) (by simp) todo (by simp) h

/-- A record replaced by one whose view is legal when the old one is, wherever it is defined. -/
theorem setPane (hg : s.GeometryLaw) (r : Pane) (hdef : r.defined = true → (s.pane p).defined = true)
    (hl : (s.pane p).view.Legal → r.view.Legal) : StartsAs s p (s.setPane p r) :=
  .record rfl r rfl rfl fun h => hl (hg.1 p (hdef h))

end StartsAs

section Commands

variable {s : State} (hg : s.GeometryLaw) (x : Port) (p : PaneId)

/-- A geometry that passes DEFINE's range checks makes a legal record (R20, R21). -/
theorem Geometry.record_legal {g : Geometry} (h : Geometry.outOfRange g = false) (old : Pane) :
    (Geometry.record g old).view.Legal := by
  simp only [Geometry.outOfRange, Bool.or_eq_false_iff, decide_eq_false_iff_not] at h
  simp only [Geometry.record, Geometry.view, PaneView.Legal]
  refine ⟨by omega, by omega, by omega, by omega, by omega, by omega, by omega, by omega, by omega,
    by omega, by omega, by omega, by omega, ?_⟩
  split
  · trivial
  · omega

theorem engineDefine_starts (g : Geometry) : StartsAs s p (engineDefine x p g s) := by
  unfold engineDefine
  split
  · exact .refusing _
  · split
    · exact .refusing _
    · rename_i hrange
      split
      · exact .refusing _
      · exact .record rfl _ rfl rfl fun _ =>
          Geometry.record_legal (Bool.eq_false_iff.mpr hrange) _

include hg

theorem engineShow_starts : StartsAs s p (engineShow x p s) := by
  unfold engineShow
  split
  · exact .refusing _
  · split
    · exact .refusing _
    · rename_i hd
      exact .setPane hg _ (fun _ => by simpa using hd) id

theorem engineHide_starts : StartsAs s p (engineHide x p s) := by
  unfold engineHide
  split
  · exact .refusing _
  · split
    · exact .refusing _
    · rename_i hd
      exact .setPane hg _ (fun _ => by simpa using hd) id

omit hg in
theorem engineDrop_starts : StartsAs s p (engineDrop x p s) := by
  unfold engineDrop
  split
  · exact .refusing _
  · exact .record rfl _ rfl rfl fun h => absurd h (by simp [Pane.defined])

theorem engineClaim_starts : StartsAs s p (engineClaim x p s) := by
  unfold engineClaim
  split
  · split
    · exact .same rfl rfl rfl
    · exact .refusing _
  · split
    · exact .refusing _
    · split
      · exact .refusing _
      · exact .setPane hg _ id id

theorem engineRelease_starts : StartsAs s p (engineRelease x p s) := by
  have hr : ((s.pane p).released x).defined = true → ((s.pane p).released x).view.Legal := hg.1 p
  unfold engineRelease
  split
  · exact .refusing _
  · dsimp only
    split <;> exact .record rfl _ rfl rfl hr

/-- SET_TOP writes a top line that passed its checks, and a fine offset of its field's four bits (R46). -/
theorem engineSetTop_starts (top fine : Nat) (hfine : fine ≤ 15) :
    StartsAs s p (engineSetTop x p top fine s) := by
  simp only [engineSetTop]
  split
  · exact .refusing _
  · split
    · exact .refusing _
    · rename_i hd
      split
      · exact .refusing _
      · rename_i hring
        split
        · exact .refusing _
        · rename_i hflat
          refine .setPane hg _ (fun _ => by simpa using hd) fun hl => ?_
          have hle := hl.height_le_ringLines
          have hfr := hl.frozen_le_height
          simp only [Bool.and_eq_true, Bool.or_eq_true, decide_eq_true_eq, ne_eq, not_and] at hring hflat
          refine hl.withTop hfine ?_
          split <;> omega

/-- A ROLL clears lines of the ring, or moves the top line round it. -/
theorem beginRoll_starts (k : Int) (clear : Bool) : StartsAs s p (beginRoll x p k clear s) := by
  simp only [beginRoll]
  split
  · exact .refusing _
  · split
    · exact .refusing _
    · rename_i hd
      have hd : (s.pane p).defined = true := by simpa using hd
      split
      · exact .same rfl rfl rfl
      · rename_i hring
        have hle := (hg.1 p hd).height_le_ringLines
        have hfr := (hg.1 p hd).frozen_le_height
        have moved : ∀ c, StartsAs s p (s.setView p ((s.pane p).view.advanced c)) := fun c =>
          .setPane hg _ (fun _ => hd) fun hl => hl.advanced c
        split
        · split
          · exact .takeFlight (rollSteps_fits hd (by omega) _)
          · exact moved _
        · exact moved _

theorem beginLog_starts (attr : Attr) (codes : List Code) :
    StartsAs s p (beginLog x p attr codes s) := by
  simp only [beginLog]
  split
  · exact .refusing _
  · split
    · exact .refusing _
    · rename_i hd
      have hd : (s.pane p).defined = true := by simpa using hd
      split
      · exact .refusing _
      · have hle := (hg.1 p hd).height_le_ringLines
        have hfr := (hg.1 p hd).frozen_le_height
        exact .takeFlight (logSteps_fits hd (hg.1 p hd) (by omega) attr codes)

omit hg

theorem beginPlace_starts (row col : Nat) (attr : Attr) (codes : List Code) :
    StartsAs s p (beginPlace x p row col attr codes s) := by
  simp only [beginPlace]
  split
  · exact .refusing _
  · split
    · exact .refusing _
    · rename_i hd
      split
      · exact .refusing _
      · exact .takeFlight (placeSteps_fits (by simpa using hd) (by omega) col attr codes)

theorem beginSweep_starts (row col w h : Nat) (code : Code) (attr : Attr) (override : Bool) :
    StartsAs s p (beginSweep x p row col w h code attr override s) := by
  simp only [beginSweep]
  split
  · exact .refusing _
  · split
    · exact .refusing _
    · rename_i hd
      refine .takeFlight ?_
      split
      · simp
      · exact sweepSteps_fits (by simpa using hd) row col w h _ override

theorem beginShift_starts (srow scol drow dcol w h : Nat) :
    StartsAs s p (beginShift x p srow scol drow dcol w h s) := by
  simp only [beginShift]
  split
  · exact .refusing _
  · split
    · exact .refusing _
    · rename_i hd
      split
      · exact .refusing _
      · exact .takeFlight (shiftSteps_fits (by simpa using hd) srow scol drow dcol w h)

theorem beginTint_starts (row col w h : Nat) (attr : Attr) (mask : AttrMask) :
    StartsAs s p (beginTint x p row col w h attr mask s) := by
  simp only [beginTint]
  split
  · exact .refusing _
  · split
    · exact .refusing _
    · rename_i hd
      refine .takeFlight ?_
      split
      · simp
      · exact tintSteps_fits (by simpa using hd) row col w h attr mask

/-- A TICK that passes its checks has its field in a row and the columns of a defined pane (R59). -/
theorem tickRefusal_none {row col n : Nat} (h : tickRefusal x p row col n s = none) :
    (s.pane p).defined = true ∧ row < (s.pane p).view.height ∧
      col + n ≤ (s.pane p).view.width := by
  simp only [tickRefusal] at h
  split at h
  · simp at h
  · split at h
    · simp at h
    · rename_i hd
      split at h
      · simp at h
      · split at h
        · simp at h
        · exact ⟨by simpa using hd, by omega, by omega⟩

theorem beginTick_starts (row col : Nat) (codes : List Code) (digit arrow : Bool) :
    StartsAs s p (beginTick x p row col codes digit arrow s) := by
  unfold beginTick
  split
  · exact .refusing _
  · rename_i hnone
    obtain ⟨hd, hrow, hcol⟩ := tickRefusal_none x p hnone
    exact .takeFlight (tickSteps_fits hd codes digit arrow hrow hcol)

theorem beginReadCells_starts (row col n : Nat) :
    StartsAs s p (beginReadCells x p row col n s) := by
  simp only [beginReadCells]
  split
  · exact .refusing _
  · rename_i h
    simp only [Bool.or_eq_true, Bool.not_eq_true', decide_eq_true_eq, not_or, Bool.not_eq_false] at h
    obtain ⟨⟨⟨hd, hrow⟩, -⟩, -⟩ := h
    exact .takeFlight (readSteps_fits hd (by omega) col n)

/-- A command's fine offset, where it carries one, fits the field of four bits (R207). -/
def Command.FineFits (c : Command) : Prop := ∀ p top fine, c = .setTop p top fine → fine ≤ 15

include hg in
/-- What the first event of any command leaves of the panes and the command in flight. -/
theorem startCommand_starts (c : Command) (hc : Command.FineFits c) :
    StartsAs s (Command.named c) (startCommand x c s) := by
  cases c <;> simp only [startCommand, Command.named]
  case define p g => exact engineDefine_starts x p g
  case showPane p => exact engineShow_starts hg x p
  case hidePane p => exact engineHide_starts hg x p
  case dropPane p => exact engineDrop_starts x p
  case claim p => exact engineClaim_starts hg x p
  case release p => exact engineRelease_starts hg x p
  case setTop p top fine => exact engineSetTop_starts hg x p top fine (hc p top fine rfl)
  case roll p k clear => exact beginRoll_starts hg x p k clear
  case log p attr codes => exact beginLog_starts hg x p attr codes
  case place p row col attr codes => exact beginPlace_starts x p row col attr codes
  case sweep p row col w h code attr override =>
    exact beginSweep_starts x p row col w h code attr override
  case shift p srow scol drow dcol w h => exact beginShift_starts x p srow scol drow dcol w h
  case tint p row col w h attr mask => exact beginTint_starts x p row col w h attr mask
  case tick p row col codes digit arrow => exact beginTick_starts x p row col codes digit arrow
  case readCells p row col n => exact beginReadCells_starts x p row col n
  case readGlyph slotOption slot code =>
    unfold engineReadGlyph
    split
    · exact .refusing _
    · exact .steps rfl rfl _ rfl fun m hm => by rw [List.mem_singleton.mp hm]; trivial
  case wait | palette | staleColour | lock => exact .same rfl rfl rfl
  all_goals
    simp only [engineRaise, engineLower, engineBehind, engineGlyph, enginePatch, enginePatchRows,
      enginePatchCode, engineUnpatch, engineRamp, engineBlink, engineCursor, engineTiming]
  all_goals repeat' split
  all_goals
    first
    | exact .refusing _
    | exact .same rfl rfl rfl

end Commands

/-- A SET_TOP that words carry has a fine offset of four bits. -/
theorem decodeCommand_fineFits {ws : List Word} {c : Command} (h : decodeCommand ws = some c) :
    Command.FineFits c := by
  rintro p top fine rfl
  unfold decodeCommand at h
  split at h
  · simp at h
  · split at h
    · simp at h
    · simp only [decodeArguments] at h
      split at h
      all_goals try (split at h)
      all_goals simp_all
      obtain ⟨-, -, rfl⟩ := h
      exact Nat.le_of_lt_succ (Nat.mod_lt _ (by decide))

end Sys2Proof.Machine
end

section
/-! ### The geometry law and the law of the command in flight are kept, and no step faults (R3, R22) -/

namespace Sys2Proof.Machine

/-- The two laws under which the engine forms only addresses of the plane. -/
def State.InsideLaw (s : State) : Prop := s.GeometryLaw ∧ s.FlightLaw

variable {s t : State}

/-! #### Panes that change in no field that the laws ask about -/

/-- The displayed records of a state stay legal where they stay. -/
theorem State.GeometryLaw.shown_congr (hs : s.GeometryLaw) (h : t.shownPanes = s.shownPanes) :
    ∀ p : PaneId, (t.shownPane p).state ≠ .undefined → (t.shownPane p).Legal := by
  unfold State.shownPane
  rw [h]
  exact hs.2

/-- Both laws stay where the views of the panes change in the stale flag alone and the command in flight
stays or ends. -/
theorem State.InsideLaw.of_views (hs : s.InsideLaw)
    (hview : ∀ p, ∃ stale, (t.pane p).view = { (s.pane p).view with stale := stale })
    (hshown : ∀ p : PaneId, (t.shownPane p).state ≠ .undefined → (t.shownPane p).Legal)
    (hflight : t.flight = none ∨ t.flight = s.flight) : t.InsideLaw := by
  refine ⟨⟨fun p hd => ?_, hshown⟩, fun f hf m hm => ?_⟩
  · obtain ⟨stale, hv⟩ := hview p
    have hstate : (s.pane p).defined = true := by
      simpa only [Pane.defined, hv] using hd
    rw [hv]
    exact hs.1.1 p hstate
  · rcases hflight with h | h
    · exact absurd (h.symm.trans hf) (by simp)
    · obtain ⟨stale, hv⟩ := hview f.pane
      exact (hs.2 f (h ▸ hf) m hm).congr (by rw [hv]) (by rw [hv]) (by rw [hv]) (by rw [hv])
        (by rw [hv])

/-- Both laws stay where the panes and their displayed records stay. -/
theorem State.InsideLaw.of_panes (hs : s.InsideLaw) (hpanes : t.panes = s.panes)
    (hshown : t.shownPanes = s.shownPanes) (hflight : t.flight = none ∨ t.flight = s.flight) :
    t.InsideLaw :=
  hs.of_views (fun p => ⟨(s.pane p).view.stale, by unfold State.pane; rw [hpanes]⟩)
    (hs.1.shown_congr hshown) hflight

/-! #### A grant -/

/-- What the first event of a command leaves keeps both laws, when the command in flight names the pane
and has no step yet. -/
theorem StartsAs.insideLaw {p : PaneId} (h : StartsAs s p t) (hs : s.GeometryLaw)
    (hf : ∀ f, s.flight = some f → f.pane = p ∧ f.todo = []) : t.InsideLaw := by
  have empty : s.FlightLaw := fun f e m hm => by
    rw [(hf f e).2] at hm
    simp at hm
  cases h with
  | same shown panes flight => exact State.InsideLaw.of_panes ⟨hs, empty⟩ panes shown (.inr flight)
  | record shown r panes flight legal =>
    have pane : ∀ q, t.pane q = (s.setPane p r).pane q := fun q => by
      unfold State.pane
      rw [panes]
    refine ⟨⟨fun q hq => ?_, hs.shown_congr shown⟩, fun f e m hm => ?_⟩
    · rw [pane] at hq ⊢
      by_cases hqp : q = p
      · subst hqp
        rw [State.pane_setPane_same] at hq ⊢
        exact legal hq
      · rw [State.pane_setPane_other s r hqp] at hq ⊢
        exact hs.1 q hq
    · rw [(hf f (flight ▸ e)).2] at hm
      simp at hm
  | steps shown panes todo flight fits =>
    have geometry : t.GeometryLaw :=
      (State.InsideLaw.of_panes (t := { t with flight := none }) ⟨hs, empty⟩ panes shown
        (.inl rfl)).1
    refine ⟨geometry, fun f e m hm => ?_⟩
    rw [flight, Option.map_eq_some_iff] at e
    obtain ⟨f₀, e₀, rfl⟩ := e
    have pane : t.pane f₀.pane = s.pane p := by
      unfold State.pane
      rw [panes, (hf f₀ e₀).1]
    rw [pane]
    exact fits m hm

/-- A grant keeps both laws: its command's steps fit the pane it names. -/
theorem State.InsideLaw.grantTo (hs : s.InsideLaw) {x : Port} (hpick : s.arbiterPick = some x) :
    (grantTo x s).InsideLaw := by
  have hnone := (State.arbiterPick_some hpick).1
  rcases grantTo_cases x s with ⟨-, e⟩ | ⟨w, rest, -, ⟨-, e⟩ | ⟨c, hc, e⟩⟩ <;> rw [e]
  · exact hs
  · exact hs.of_panes rfl rfl (.inr rfl)
  · have granted : (s.granted x w rest c).GeometryLaw := hs.1
    have started : (startCommand x c (s.granted x w rest c)).InsideLaw :=
      (startCommand_starts granted x c (decodeCommand_fineFits hc)).insideLaw granted fun f hf => by
        simp only [State.granted_flight, Option.some.injEq] at hf
        exact hf ▸ ⟨rfl, rfl⟩
    unfold beginCommand
    rcases State.completeIfDone_cases (startCommand x c (s.granted x w rest c)) x with h | h <;> rw [h]
    · exact started
    · exact started.of_panes rfl rfl (.inl rfl)

/-! #### A step of the engine -/

/-- Of the panes a step of the engine moves only the top line of its own. -/
theorem Micro.effect_panes (f : Flight) (m : Micro) (s : State) :
    (m.effect f s).panes = s.panes ∨
      ∃ c, m.effect f s = s.setView f.pane ((s.pane f.pane).view.advanced c) := by
  cases m <;> simp only [Micro.effect]
  case advance c => exact .inr ⟨c, rfl⟩
  case put | store | arrow | markEvent => split <;> exact .inl rfl
  case discard => exact .inl (by simp)
  case load | readOld => exact .inl trivial
  case tint | read | clearCell | text | putCode | readBitmap | refuse => exact .inl rfl

/-- No step of the engine touches a displayed record. -/
theorem Micro.effect_shownPanes (f : Flight) (m : Micro) (s : State) :
    (m.effect f s).shownPanes = s.shownPanes := by
  cases m <;> simp only [Micro.effect]
  case put | store | arrow | markEvent => split <;> rfl
  all_goals simp

/-- A step that fits its pane still fits it after another step of the command. -/
theorem Micro.fits.effect {k : Micro} {f : Flight} (h : k.fits (s.pane f.pane)) (m : Micro) :
    k.fits ((m.effect f s).pane f.pane) := by
  rcases m.effect_panes f s with e | ⟨c, e⟩
  · have pane : (m.effect f s).pane f.pane = s.pane f.pane := by
      unfold State.pane
      rw [e]
    rwa [pane]
  · rw [e, State.pane_setView_same, PaneView.advanced_eq]
    exact h.congr rfl rfl rfl rfl rfl

/-- A step keeps the geometry of the panes. -/
theorem State.GeometryLaw.effect (hs : s.GeometryLaw) (f : Flight) (m : Micro) :
    (m.effect f s).GeometryLaw := by
  refine ⟨fun q hq => ?_, hs.shown_congr (m.effect_shownPanes f s)⟩
  rcases m.effect_panes f s with e | ⟨c, e⟩
  · have pane : (m.effect f s).pane q = s.pane q := by
      unfold State.pane
      rw [e]
    rw [pane] at hq ⊢
    exact hs.1 q hq
  · rw [e] at hq ⊢
    by_cases hqf : q = f.pane
    · subst hqf
      have hd : (s.pane f.pane).defined = true := by
        rw [State.pane_setView_same, PaneView.advanced_eq] at hq
        exact hq
      rw [State.pane_setView_same]
      exact (hs.1 f.pane hd).advanced c
    · rw [State.pane_setView_other s _ hqf] at hq ⊢
      exact hs.1 q hq

/-- A read's record in the command in flight leaves the pane it names. -/
theorem Micro.progress_pane (f : Flight) (m : Micro) (s : State) :
    (m.progress f s).pane = f.pane := by
  cases m <;> rfl

/-- Dropping an idle mark event adds no step. -/
theorem mem_of_mem_dropIdleMark {old : List Code} {m : Micro} {todo : List Micro}
    (h : m ∈ dropIdleMark old todo) : m ∈ todo := by
  unfold dropIdleMark at h
  split at h
  · split at h
    · exact List.mem_cons_of_mem _ h
    · exact h
  · exact h

/-- A step done keeps both laws. -/
theorem State.InsideLaw.stepDone (hs : s.InsideLaw) {f : Flight} {m : Micro} {rest : List Micro}
    (hf : s.flight = some f) (ht : f.todo = m :: rest) : (s.stepDone f m rest).InsideLaw := by
  have geometry := hs.1.effect f m
  simp only [State.stepDone]
  split
  · exact ⟨geometry, fun g hg => absurd hg (by simp)⟩
  · refine ⟨geometry, fun g hg k hk => ?_⟩
    simp only [Option.some.injEq] at hg
    subst hg
    have hfit : k.fits (s.pane f.pane) := hs.2 f hf k (by
      rw [ht]
      exact List.mem_cons_of_mem _ (mem_of_mem_dropIdleMark hk))
    show k.fits ((m.effect f s).pane (m.progress f s).pane)
    rw [Micro.progress_pane]
    exact hfit.effect m

/-- The engine keeps both laws. -/
theorem State.InsideLaw.engineStep (hs : s.InsideLaw) (h : engineStep s = .next t) :
    t.InsideLaw := by
  rcases engineStep_next h with ⟨-, rfl⟩ | ⟨f, -, -, rfl⟩ | ⟨f, m, rest, hf, ht, -, rfl⟩
  · exact hs
  · exact hs.of_panes rfl rfl (.inl rfl)
  · exact hs.stepDone hf ht

/-- Under both laws the engine answers: it forms only addresses of the plane. -/
theorem State.InsideLaw.engineStep_answers (hs : s.InsideLaw) :
    ∃ t, Machine.engineStep s = .next t := by
  cases h : Machine.engineStep s with
  | next t => exact ⟨t, rfl⟩
  | fault r =>
    obtain ⟨f, m, rest, a, hf, ht, ha, hout, -⟩ := engineStep_fault h
    have hfit : m.fits (s.pane f.pane) := hs.2 f hf m (by rw [ht]; exact List.mem_cons_self)
    have := hfit.address_lt (hs.1.1 f.pane) ha
    omega
  | refused r => exact absurd h engineStep_not_refused

/-! #### The frame start and the port reset -/

/-- A frame start takes the displayed records from the working ones, whose views and command in flight
stay (R17). -/
theorem State.InsideLaw.frameStart (hs : s.InsideLaw) (o : LatchOrder) :
    (s.frameStart o).InsideLaw := by
  obtain ⟨-, flight, panes, shown⟩ := State.frameStart_stores s o
  have view : ∀ p, ((s.frameStart o).pane p).view = (s.pane p).view := fun p => by
    simp [State.pane, panes, State.latchPanes]
  have copy : ∀ p : PaneId, (s.frameStart o).shownPane p = (s.pane p).view := fun p => by
    simp [State.shownPane, State.pane, shown, State.latchPanes]
  refine hs.of_views (fun p => ⟨(s.pane p).view.stale, view p⟩) (fun p hp => ?_) (.inr flight)
  rw [copy] at hp ⊢
  exact hs.1.1 p (by simpa [Pane.defined] using hp)

/-- The stop of a port's command leaves the panes, and the command in flight or none. -/
theorem State.abortFlight_frame (s : State) (x : Port) :
    (s.abortFlight x).panes = s.panes ∧ (s.abortFlight x).shownPanes = s.shownPanes ∧
      ((s.abortFlight x).flight = none ∨ (s.abortFlight x).flight = s.flight) := by
  unfold State.abortFlight
  split
  · exact ⟨rfl, rfl, .inr rfl⟩
  · rename_i f _
    split
    · exact ⟨rfl, rfl, .inr rfl⟩
    · split
      · split
        · refine ⟨?_, Micro.effect_shownPanes f _ s, .inl rfl⟩
          simp only [Micro.effect]
          split <;> rfl
        · exact ⟨rfl, rfl, .inl rfl⟩
      · exact ⟨rfl, rfl, .inl rfl⟩

/-- Turning the cursor off leaves the panes and the command in flight. -/
theorem State.dropCursor_frame (s : State) (x : Port) :
    (s.dropCursor x).panes = s.panes ∧ (s.dropCursor x).shownPanes = s.shownPanes ∧
      (s.dropCursor x).flight = s.flight := by
  unfold State.dropCursor
  split <;> exact ⟨rfl, rfl, rfl⟩

/-- Releasing a port's panes changes of their views the stale flag alone (R30). -/
theorem State.pane_releaseAll_view (s : State) (x : Port) (p : PaneId) :
    ∃ stale, ((s.releaseAll x).pane p).view = { (s.pane p).view with stale := stale } := by
  simp only [State.pane, State.releaseAll, Fin.getElem_fin, Vector.getElem_map]
  split
  · exact ⟨true, rfl⟩
  · exact ⟨_, rfl⟩

/-- A port reset keeps both laws (R192). -/
theorem State.InsideLaw.portReset (hs : s.InsideLaw) (x : Port) :
    (((s.abortFlight x).dropCursor x).releaseAll x).InsideLaw := by
  obtain ⟨hp, hv, hf⟩ := s.abortFlight_frame x
  obtain ⟨hp', hv', hf'⟩ := (s.abortFlight x).dropCursor_frame x
  have dropped : ((s.abortFlight x).dropCursor x).InsideLaw :=
    hs.of_panes (hp'.trans hp) (hv'.trans hv) (hf' ▸ hf)
  exact dropped.of_views (State.pane_releaseAll_view _ x) dropped.1.2 (.inr rfl)

/-- Power-on reset leaves every pane UNDEFINED and nothing in flight. -/
theorem onPowerOnReset_insideLaw (osel tsel : Fin 4) (s : State) :
    (onPowerOnReset osel tsel s).InsideLaw := by
  refine ⟨⟨fun p hp => ?_, fun p hp => ?_⟩, fun f hf => ?_⟩
  · exact absurd hp
      (by simp [State.pane, onPowerOnReset, Pane.atReset, Pane.defined, PaneView.atReset])
  · exact absurd hp (by simp [State.shownPane, onPowerOnReset, State.reset, PaneView.atReset])
  · exact absurd hf (by simp [onPowerOnReset, State.reset])

/-- The two laws together are a law of the stores. -/
theorem insideLaw_storeLaw : StoreLaw State.InsideLaw where
  lines := fun _ _ _ _ _ _ hs => hs
  grant := fun _ _ hs hpick => hs.grantTo hpick
  engine := fun _ _ hs h => hs.engineStep h
  powerOn := fun osel tsel s _ => onPowerOnReset_insideLaw osel tsel s
  endFlight := fun _ hs => hs.of_panes rfl rfl (.inl rfl)
  clearPlane := fun _ hs => hs
  frame := fun o _ hs => hs.frameStart o
  portReset := fun x _ hs => hs.portReset x

/-- Settles O54: under the two laws the engine answers, and they are a law of the stores. -/
theorem stepKeepsGeometryAndNeverFaults : Obligations.StepKeepsGeometryAndNeverFaults :=
  fun s hg hf => insideLaw_storeLaw.step_answers (fun _ hs => hs.engineStep_answers) s ⟨hg, hf⟩

end Sys2Proof.Machine
end

section
/-! ### The words a port makes, and the commands they carry back (R173, R206-R210) -/

namespace Sys2Proof

/-! #### Parity -/

/-- The count of ones below a bit is a matter of the bits below it. -/
theorem onesBelow_congr {bits m n : Nat} (h : ∀ i < bits, m.testBit i = n.testBit i) :
    onesBelow bits m = onesBelow bits n :=
  List.countP_congr fun i hi => by rw [h i (List.mem_range.mp hi)]

theorem onesBelow_succ (bits n : Nat) :
    onesBelow (bits + 1) n = onesBelow bits n + if n.testBit bits then 1 else 0 := by
  simp [onesBelow, List.range_succ, List.countP_append, List.countP_singleton]

/-- Every word the part makes has good parity: bit 15 makes up for the bits below it (R173, R209). -/
theorem parityGood_mkWord (n : Nat) : parityGood (mkWord n) = true := by
  have low : onesBelow 15 (mkWord n).toNat = onesBelow 15 n := onesBelow_congr fun i hi => by
    have hmod := congrArg (Nat.testBit · i) (mkWord_toNat_mod n)
    simpa [Nat.testBit_mod_two_pow (j := 15), hi] using hmod
  have high : (mkWord n).toNat.testBit 15 = decide (onesBelow 15 n % 2 ≠ 1) := by
    have hlt : n % 32768 < 32768 := Nat.mod_lt _ (by decide)
    rw [Nat.testBit_eq_decide_div_mod_eq, mkWord, BitVec.toNat_ofNat, decide_eq_decide]
    split <;> omega
  rw [parityGood, onesBelow_succ, low, high]
  by_cases odd : onesBelow 15 n % 2 = 1
  · simp [odd]
  · simp [odd]
    omega

theorem parityGood_of_mem_encodeCommand {c : Command} {w : Word} (h : w ∈ encodeCommand c) :
    parityGood w = true := by
  obtain ⟨n, -, rfl⟩ := List.mem_map.mp h
  exact parityGood_mkWord n

/-! #### Fields of a word that is made from its contents -/

/-- A field from bit 0 up. -/
theorem field_mkWord_low (n width : Nat) (h : width ≤ 15) :
    field (mkWord n) 0 width = n % 2 ^ width := by
  rw [field_mkWord n 0 width (by omega), Nat.pow_zero, Nat.div_one]

theorem flagBit_mkWord (n b : Nat) (h : b ≤ 14) :
    flagBit (mkWord n) b = decide (n / 2 ^ b % 2 = 1) := by
  rw [flagBit, field_mkWord n b 1 (by omega), Nat.pow_one]

/-- The index field of a header (R206). -/
theorem field_header_index (code index options : Nat) :
    field (mkWord (header code index options)) 5 4 = index % 16 := by
  rw [field_mkWord _ _ _ (by omega)]
  unfold header
  omega

/-- The pane or slot a header names (R206). -/
theorem ofNat_header_index (code options : Nat) (p : Fin 16) :
    Fin.ofNat 16 (field (mkWord (header code p.val options)) 5 4) = p := by
  rw [field_header_index]
  exact Fin.ext (by simp [Nat.mod_eq_of_lt p.isLt])

/-- A number that fits its field comes back from it. -/
theorem field_mkWord_fits {n m width : Nat} (hm : m = 2 ^ width) (hwidth : width ≤ 15) (hn : n < m) :
    field (mkWord (n % m)) 0 width = n := by
  rw [field_mkWord_low _ _ hwidth, hm, Nat.mod_mod, ← hm, Nat.mod_eq_of_lt hn]

/-- An index comes back from its field. -/
theorem ofNat_field_mkWord {m width : Nat} [NeZero m] (hm : m = 2 ^ width) (hwidth : width ≤ 15)
    (i : Fin m) : Fin.ofNat m (field (mkWord i.val) 0 width) = i := by
  rw [field_mkWord_low _ _ hwidth, ← hm, Nat.mod_eq_of_lt i.isLt]
  exact Fin.ofNat_val_eq_self i

/-- A code comes back from its word (R207). -/
theorem codeOf_mkWord (code : Code) : codeOf (mkWord code.val) = code := by
  have := code.isLt
  refine Fin.ext ?_
  simp only [codeOf, Fin.val_ofNat]
  rw [field_mkWord_low _ _ (by omega)]
  omega

theorem map_codeOf_mkWord (codes : List Code) :
    ((codes.map Fin.val).map mkWord).map codeOf = codes := by
  rw [List.map_map, List.map_map]
  exact (List.map_congr_left fun code _ => codeOf_mkWord code).trans (List.map_id codes)

/-- A flag at its bit, as the number it adds. -/
theorem bitOf_eq (f : Bool) (b : Nat) : bitOf f b = f.toNat * 2 ^ b := by
  cases f <;> simp [bitOf]

/-- The flag that its one bit reads back. -/
theorem eq_decide_of_toNat {f : Bool} {n : Nat} (h : n = f.toNat) : decide (n = 1) = f := by
  subst h
  cases f <;> rfl

/-- Both option bits of a TICK's header (R207). -/
theorem flagBit_header_options (code index : Nat) (f g : Bool) :
    flagBit (mkWord (header code index (bitOf f 0 + bitOf g 1))) 0 = f ∧
      flagBit (mkWord (header code index (bitOf f 0 + bitOf g 1))) 1 = g := by
  have hf := f.toNat_le
  have hg := g.toNat_le
  unfold header
  rw [bitOf_eq, bitOf_eq, flagBit_mkWord _ _ (by omega), flagBit_mkWord _ _ (by omega)]
  exact ⟨eq_decide_of_toNat (by omega), eq_decide_of_toNat (by omega)⟩

/-- Option bit 0 of a header that has no other option (R207). -/
theorem flagBit_header_option (code index : Nat) (f : Bool) :
    flagBit (mkWord (header code index (bitOf f 0))) 0 = f :=
  (flagBit_header_options code index f false).1

/-- Attributes come back from their word (R209). -/
theorem attrOf_mkWord (t : Attr) : attrOf (mkWord (attrContents t)) = t := by
  obtain ⟨fg, bg, blink, underline, inverse, conceal, guarded⟩ := t
  have hfg := fg.isLt
  have hbg := bg.isLt
  have h8 := blink.toNat_le
  have h9 := underline.toNat_le
  have h10 := inverse.toNat_le
  have h11 := conceal.toNat_le
  have h12 := guarded.toNat_le
  simp only [attrOf, attrContents, bitOf_eq, Attr.mk.injEq]
  refine ⟨Fin.ext ?_, Fin.ext ?_, ?_, ?_, ?_, ?_, ?_⟩
  · rw [Fin.val_ofNat, field_mkWord_low _ _ (by omega)]
    omega
  · rw [Fin.val_ofNat, field_mkWord _ _ _ (by omega)]
    omega
  all_goals
    rw [flagBit_mkWord _ _ (by omega)]
    exact eq_decide_of_toNat (by omega)

/-- A TINT's mask comes back from its word (R207). -/
theorem maskOf_mkWord (m : AttrMask) : maskOf (mkWord (maskContents m)) = m := by
  obtain ⟨fg, bg, blink, underline, inverse, conceal, guarded⟩ := m
  revert fg bg blink underline inverse conceal guarded
  decide

/-- A stage colour comes back from its word (R207). -/
theorem stageOf_mkWord (st : StageColour) : stageOf (mkWord (stageContents st)) = st := by
  cases st with
  | keep => decide
  | index i => revert i; decide

/-- A ROLL's count comes back from its two's complement field (R207). -/
theorem rollCount_mkWord {k : Int} (hlow : -16384 ≤ k) (hhigh : k ≤ 16383) :
    rollCount (mkWord (k % 32768).toNat) = k := by
  unfold rollCount
  rw [field_mkWord_low _ _ (by omega)]
  dsimp only
  split <;> omega

/-- A bitmap's row-pair words come back as they were carried (R210). -/
theorem rowsOf_mkWord (rows : RowPairs) : rowsOf ((rowContents rows).map mkWord) = some rows := by
  have row : ∀ r : BitVec 15, BitVec.ofNat 15 (mkWord r.toNat).toNat = r := fun r => by
    have hmod := mkWord_toNat_mod r.toNat
    have hlt := r.isLt
    refine BitVec.eq_of_toNat_eq ?_
    rw [BitVec.toNat_ofNat]
    omega
  obtain ⟨⟨words⟩, hlen⟩ := rows
  match words, hlen with
  | [_, _, _, _, _, _, _, _], _ => simp [rowContents, rowsOf, row]

/-! #### Commands -/

/-- The arguments of a command come back from the words that carry them, whatever the command (R208). -/
theorem decodeArguments_encodeCommand {c : Command} (hw : c.WellFormed = true) {h : Word}
    {args : List Word} (he : encodeCommand c = h :: args) : decodeArguments h args = some c := by
  cases c
  -- the header and the argument words are those of the case, and each field reads back its operand
  all_goals
    simp only [encodeCommand, commandContents, List.map_cons, List.map_nil, List.cons.injEq] at he
    obtain ⟨rfl, rfl⟩ := he
    simp only [Command.WellFormed, Geometry.WellFormed, Bool.and_eq_true, decide_eq_true_eq] at hw
    simp only [decodeArguments, headerCode_mkWord_header, Nat.reduceMod, ofNat_header_index,
      flagBit_header_option, flagBit_header_options, codeOf_mkWord, map_codeOf_mkWord, attrOf_mkWord,
      maskOf_mkWord, stageOf_mkWord, rowsOf_mkWord, Option.map_some, Nat.reducePow, Nat.reduceLeDiff,
      field_mkWord_fits, ofNat_field_mkWord, hw]
  -- the three words whose contents are computed from their operands
  case define p g =>
    have hring : field (mkWord ((g.ringLines - 1) % 32768)) 0 15 + 1 = g.ringLines := by
      rw [field_mkWord_fits (by decide) (by decide) (by omega)]
      omega
    rw [hring]
  case roll p k clear => rw [rollCount_mkWord hw.1 hw.2]
  case ramp dir stage fg bg duration count =>
    have hdir := dir.isLt
    have hstage := stage.isLt
    rw [field_mkWord_low _ _ (by decide), field_mkWord _ _ _ (by decide)]
    congr 2
    · exact Fin.ext (by rw [Fin.val_ofNat]; omega)
    · exact Fin.ext (by rw [Fin.val_ofNat]; omega)

/-- A command sent on a port comes back whole from the words of its transfer (R207, R208). -/
theorem decodeCommand_encodeCommand {i : Instr} {x : Port} {c : Command}
    (hi : i.command = some (x, c)) (hw : c.WellFormed = true) :
    decodeCommand (encodeCommand c) = some c := by
  obtain ⟨h, args, he, hservice, hcount⟩ := Laws.Framing.all i x c hi hw
  rw [he, decodeCommand, if_neg (by simp [hservice, hcount])]
  exact decodeArguments_encodeCommand hw he

end Sys2Proof
end

section
/-! ### A command carried out at once (R87-R91)

On a port that is served at once, the row of a command leaves nobody for the arbiter to grant but the command
itself, neither while its transfer is clocked in nor while it runs. -/

namespace Sys2Proof.Machine

variable {s t : State} {x : Port} {c : Command}

/-! #### A port that is served at once -/

/-- What it means that port `x` is free for command `c`, each part under a name. -/
structure State.ServedAtOnce (s : State) (x : Port) (c : Command) : Prop where
  ready : s.ready x = true
  high : (s.port x).selLow = false
  closed : (s.port x).openT = none
  queue : (s.port x).queue = []
  running : (s.port x).faults.condition = .running
  awake : (s.port x).waiting = false
  unreserved : (s.port x).reserved = 0
  room : replyNeed (some c) ≤ (s.port x).room
  idle : s.flight = none
  others : ∀ y, y ≠ x → s.eligible y = false

theorem State.servedAtOnce (h : s.freeFor x c = true) : s.ServedAtOnce x c := by
  simp only [State.freeFor, Bool.and_eq_true, Bool.not_eq_true', Option.isNone_iff_eq_none,
    List.isEmpty_iff, decide_eq_true_eq] at h
  obtain ⟨⟨⟨⟨⟨⟨⟨⟨⟨⟨ready, high⟩, closed⟩, queue⟩, running⟩, awake⟩, unreserved⟩, room⟩, idle⟩,
    next⟩, last⟩ := h
  refine ⟨ready, high, closed, queue, running, awake, unreserved, room, idle, fun y hy => ?_⟩
  rcases Port.eq_after x y with rfl | rfl | rfl
  · exact absurd rfl hy
  · exact next
  · exact last

/-- A port with no complete transfer is not eligible. -/
theorem State.eligible_of_queue_nil (h : (s.port x).queue = []) : s.eligible x = false := by
  simp only [State.eligible, h]

/-- The arbiter picks the one port that is eligible. -/
theorem State.arbiterPick_of_only (hflight : s.flight = none) (hx : s.eligible x = true)
    (others : ∀ y, y ≠ x → s.eligible y = false) : s.arbiterPick = some x := by
  unfold State.arbiterPick
  rw [hflight, if_neg (by simp)]
  have found : ∀ y, s.eligible y = decide (y = x) := fun y => by
    by_cases hy : y = x
    · simp [hy, hx]
    · simp [hy, others y hy]
  simp only [found]
  rcases Port.eq_after s.grantPtr x with rfl | rfl | rfl <;> cases s.grantPtr <;> decide

/-! #### Nobody waits beside the command -/

/-- `t` is a state of the row that carries a command of port `x` out from `s`: the other ports are as they
were, `x` has nothing queued, and the command in flight, if one is, is of `x`. -/
structure State.AloneOn (s : State) (x : Port) (t : State) : Prop where
  phase : t.phase = s.phase
  queue : (t.port x).queue = []
  others : ∀ y, y ≠ x → t.port y = s.port y
  flight : ∀ f, t.flight = some f → f.port = x

/-- With nobody else eligible at the row's beginning, nobody is to be granted in any of its states. -/
theorem State.AloneOn.arbitrate (h : s.AloneOn x t) (others : ∀ y, y ≠ x → s.eligible y = false) :
    t.arbitrate = t := by
  refine State.arbitrate_of_none (State.arbiterPick_eq_none (.inr fun y => ?_))
  by_cases hy : y = x
  · subst hy
    exact State.eligible_of_queue_nil h.queue
  · rw [← others y hy]
    have same := h.others y hy
    exact State.eligible_congr h.phase (by rw [same]) (by rw [same]) (by rw [same]) (by rw [same])

theorem PortState.appendReply_queue (p : PortState) (ws : List Word) :
    (p.appendReply ws).queue = p.queue := by
  induction ws generalizing p with
  | nil => rfl
  | cons w ws ih =>
    rw [PortState.appendReply, List.foldl_cons, ← PortState.appendReply, ih]
    unfold PortState.appendReserved
    split <;> rfl

/-- A step of the engine changes no port but its command's, and puts no transfer into a queue. -/
theorem Micro.effect_ports (f : Flight) (m : Micro) (s : State) :
    ∃ p, (m.effect f s).ports = s.ports.set f.port p ∧
      ((s.port f.port).queue = [] → p.queue = []) := by
  have same : ∀ u : State, u.ports = s.ports → ∃ p, u.ports = s.ports.set f.port p ∧
      ((s.port f.port).queue = [] → p.queue = []) := fun u hu =>
    ⟨s.port f.port, hu.trans (Ports.set_get s.ports f.port).symm, id⟩
  cases m <;> simp only [Micro.effect]
  case put | store | arrow | markEvent => split <;> exact same _ rfl
  case read | readBitmap =>
    exact ⟨_, rfl, fun h => (PortState.appendReply_queue _ _).trans h⟩
  case discard => exact ⟨_, rfl, id⟩
  case refuse code =>
    refine ⟨_, rfl, fun h => ?_⟩
    show (FaultMode.act _ _ _).queue = []
    rw [FaultMode.act_queue, h, ite_self]
  case load | readOld | tint | clearCell | text | putCode | advance => exact same _ rfl

theorem Micro.effect_phase (f : Flight) (m : Micro) (s : State) :
    (m.effect f s).phase = s.phase := by
  cases m <;> simp only [Micro.effect]
  case put | store | arrow | markEvent => split <;> rfl
  all_goals simp

theorem Micro.progress_port (f : Flight) (m : Micro) (s : State) :
    (m.progress f s).port = f.port := by
  cases m <;> rfl

/-- The end of the command leaves its port alone with nothing in flight. -/
theorem State.AloneOn.complete (h : s.AloneOn x t) : s.AloneOn x (t.complete x) where
  phase := h.phase
  queue := by
    simp only [State.complete, State.port_updPort_same]
    exact h.queue
  others := fun y hy => (State.port_updPort_other _ _ hy).trans (h.others y hy)
  flight := fun f hf => absurd hf (by simp)

/-- What a step does to the part leaves its port alone, with the command in flight replaced by another of
the port. -/
theorem State.AloneOn.effect {f : Flight} (h : s.AloneOn x t) (hf : t.flight = some f) (m : Micro)
    {g : Flight} (hg : g.port = x) : s.AloneOn x { m.effect f t with flight := some g } := by
  have hx : f.port = x := h.flight f hf
  obtain ⟨p, hp, hqueue⟩ := m.effect_ports f t
  rw [hx] at hp hqueue
  refine ⟨(m.effect_phase f t).trans h.phase, ?_, fun y hy => ?_, fun k hk => ?_⟩
  · show ((m.effect f t).ports.get x).queue = []
    rw [hp, Ports.get_set_same]
    exact hqueue h.queue
  · show (m.effect f t).ports.get y = s.port y
    rw [hp, Ports.get_set_other _ _ hy]
    exact h.others y hy
  · simp only [Option.some.injEq] at hk
    exact hk ▸ hg

/-- A step of the engine leaves its port alone. -/
theorem State.AloneOn.engineStep {u : State} (h : s.AloneOn x t) (he : engineStep t = .next u) :
    s.AloneOn x u := by
  rcases engineStep_next he with ⟨-, rfl⟩ | ⟨f, hf, -, rfl⟩ | ⟨f, m, rest, hf, -, -, rfl⟩
  · exact h
  · rw [h.flight f hf]
    exact h.complete
  · have hx := h.flight f hf
    simp only [State.stepDone]
    split
    · rw [hx]
      exact (h.effect hf m hx).complete
    · exact h.effect hf m ((Micro.progress_port f m t).trans hx)

/-- A run of the command to its end leaves nobody for the arbiter to grant. -/
theorem State.AloneOn.thenArbitrate_finishFlight (h : s.AloneOn x t)
    (others : ∀ y, y ≠ x → s.eligible y = false) :
    thenArbitrate (finishFlight t) = finishFlight t := by
  cases e : finishFlight t with
  | next u =>
    have hu : s.AloneOn x u := engineSteps_keeps (fun _ _ hs he => hs.engineStep he) _ _ _ h e
    rw [thenArbitrate, hu.arbitrate others]
  | fault r => rfl
  | refused r => rfl

/-! #### The transfer and the grant -/

/-- No transfer that R206 allows is longer than 128 words. -/
theorem le_of_countAllowed {code words : Nat} (h : countAllowed code words = true) : words ≤ 128 := by
  have rows : ∀ r ∈ serviceRows ++ engineRows, r.maxWords ≤ 128 := by decide
  unfold countAllowed at h
  split at h
  · rename_i r hr
    have := rows r (List.mem_of_find?_eq_some hr)
    simp only [Bool.and_eq_true, decide_eq_true_eq] at h
    omega
  · simp at h

/-- The state in which a delivered command is granted, its execution not begun. -/
def State.grantedNow (s : State) (x : Port) (c : Command) : State :=
  { s.delivered x c with flight := some ⟨x, encodeCommand c, Command.named c, [], none, []⟩ }

theorem State.begun_eq (s : State) (x : Port) (c : Command) :
    s.begun x c = beginCommand x c (s.grantedNow x c) := rfl

theorem State.grantedNow_ports (s : State) (x : Port) (c : Command) :
    (s.grantedNow x c).ports = s.ports.set x { s.port x with
      sent := shiftedWords (s.statusA x) (s.statusB x) (encodeCommand c).length
      sentBits := []
      reserved := replyNeed (some c) } := rfl

/-- The granted command is alone on its port when it begins. -/
theorem State.ServedAtOnce.aloneOn_begun (h : s.ServedAtOnce x c) : s.AloneOn x (s.begun x c) := by
  obtain ⟨⟨clip, waiting, reserved, hports⟩, hphase, -⟩ := beginCommand_frame x c (s.grantedNow x c)
  obtain ⟨-, -, -, -, -, -, hport⟩ := startCommand_frame x c (s.grantedNow x c)
  rw [State.begun_eq]
  refine ⟨hphase, ?_, fun y hy => ?_, fun f hf => ?_⟩
  · simp only [State.port, hports, State.grantedNow_ports, Ports.get_set_same]
    exact h.queue
  · simp only [State.port, hports, State.grantedNow_ports, Ports.set_set, Ports.get_set_other _ _ hy]
  · unfold beginCommand at hf
    rcases State.completeIfDone_cases (startCommand x c (s.grantedNow x c)) x with e | e <;> rw [e] at hf
    · rw [hf] at hport
      exact Option.some.inj hport
    · exact absurd hf (by simp)

/-- The state at the end of the command's transfer, before the arbiter searches. -/
def State.handedIn (s : State) (x : Port) (c : Command) : State :=
  s.setPort x { s.port x with
    queue := [encodeCommand c]
    sent := shiftedWords (s.statusA x) (s.statusB x) (encodeCommand c).length
    sentBits := [] }

namespace State.ServedAtOnce

variable {i : Instr} (h : s.ServedAtOnce x c)

include h

/-- The transfer stands complete and alone in its queue when the arbiter searches (R178). -/
theorem sendWords_handedIn (hi : i.command = some (x, c)) (hw : c.WellFormed = true) :
    sendWords x (encodeCommand c) s = (s.handedIn x c).arbitrate := by
  obtain ⟨hd, args, he, hservice, hcount⟩ := Laws.Framing.all i x c hi hw
  have served : s.ServedLaw := State.arbiterPick_eq_none (.inr fun y => by
    by_cases hy : y = x
    · subst hy
      exact State.eligible_of_queue_nil h.queue
    · exact h.others y hy)
  have sent := sendWords_engine s x hd args _ served h.ready h.high
    (fun w hw => parityGood_of_mem_encodeCommand (he ▸ hw)) hservice hcount
    (by simpa [h.queue] using le_of_countAllowed hcount) rfl
  rw [State.handedIn, he, sent, if_neg (by simp [h.running])]
  simp only [h.queue, h.closed, List.nil_append, List.length_cons]

/-- The arbiter's search finds the command's port, and nobody else (R88, R90). -/
theorem arbiterPick_handedIn (hi : i.command = some (x, c)) (hw : c.WellFormed = true) :
    (s.handedIn x c).arbiterPick = some x := by
  refine State.arbiterPick_of_only h.idle ?_ fun y hy => ?_
  · have hphase := h.ready
    simp only [State.ready, Bool.and_eq_true, decide_eq_true_eq] at hphase
    have hroom := h.room
    simp only [State.eligible, State.handedIn, State.port_setPort_same, State.setPort_phase, hphase,
      h.running, h.awake, decodeCommand_encodeCommand hi hw]
    exact decide_eq_true hroom
  · have same : (s.handedIn x c).port y = s.port y := State.port_setPort_other _ _ hy
    rw [← h.others y hy]
    exact State.eligible_congr rfl (by rw [same]) (by rw [same]) (by rw [same]) (by rw [same])

/-- The grant takes the transfer out of its queue and begins the command (R87, R90). -/
theorem grantTo_handedIn (hi : i.command = some (x, c)) (hw : c.WellFormed = true) :
    grantTo x (s.handedIn x c) = s.begun x c := by
  have queued : ((s.handedIn x c).port x).queue = [encodeCommand c] := by simp [State.handedIn]
  have granted : (s.handedIn x c).granted x (encodeCommand c) [] c = s.grantedNow x c := by
    have queue : (s.ports.get x).queue = [] := h.queue
    have unreserved : (s.ports.get x).reserved = 0 := h.unreserved
    simp [State.granted, State.grantedNow, State.delivered, State.handedIn, State.updPort,
      State.setPort, State.port, queue, unreserved]
  simp only [grantTo, queued, decodeCommand_encodeCommand hi hw, granted, State.begun_eq]

/-- A command clocked in on a port that is served at once is granted at the end of its transfer, and its
execution has begun (R90, R91). -/
theorem sendWords (hi : i.command = some (x, c)) (hw : c.WellFormed = true) :
    Machine.sendWords x (encodeCommand c) s = s.begun x c := by
  rw [h.sendWords_handedIn hi hw, State.arbitrate_of_some (h.arbiterPick_handedIn hi hw),
    h.grantTo_handedIn hi hw, h.aloneOn_begun.arbitrate h.others]

end State.ServedAtOnce

/-- The row of a command on a port that is served at once carries the command to its end on the state its
transfer and its grant leave. -/
theorem exec_of_freeFor {i : Instr} (hi : i.command = some (x, c)) (hw : c.WellFormed = true)
    (hfree : s.freeFor x c = true) : exec i s = finishFlight (s.begun x c) := by
  have h := State.servedAtOnce hfree
  have alone := h.aloneOn_begun
  rw [exec_command hi, sendCommand, h.sendWords hi hw]
  split
  · exact alone.thenArbitrate_finishFlight h.others
  · rename_i hnot
    cases hf : (s.begun x c).flight with
    | none => rw [finishFlight_none hf]
    | some f => exact absurd (alone.flight f hf) (by simpa [h.idle, h.queue, hf] using hnot)

end Sys2Proof.Machine
end

section
/-! ### Commands whose steps each write one cell (R94)

The steps of PLACE, SWEEP and TINT, the clear of a ROLL or a LOG and a LOG's text each write the cell they
address, and nothing else but marks. What a run of them leaves is read off the steps one by one where no two
address the same cell. -/

namespace Sys2Proof.Machine

/-! #### One write -/

/-- The step writes the cell it addresses, from that cell and its own operands alone. -/
def Micro.isWrite : Micro → Bool
  | .put _ _ _ _ | .tint _ _ _ _ | .clearCell _ _ | .text _ _ _ => true
  | .load _ _ | .store _ _ | .read _ _ | .readOld _ _ | .putCode _ _ _ | .markEvent _ _ _ _
  | .arrow _ _ _ | .advance _ | .discard | .readBitmap _ _ _ | .refuse _ => false

/-- The step stores a code over a cell that holds `old`, and so removes the marks there (R75, R76): a full
write does unless the cell is guarded against it (R8). -/
def Micro.stores (old : Cell) : Micro → Bool
  | .put _ _ _ override => override || !old.attr.guarded
  | .clearCell _ _ | .text _ _ _ => true
  | .tint _ _ _ _ | .load _ _ | .store _ _ | .read _ _ | .readOld _ _ | .putCode _ _ _
  | .markEvent _ _ _ _ | .arrow _ _ _ | .advance _ | .discard | .readBitmap _ _ _ | .refuse _ => false

/-- What the step of a command in a pane with record `r` leaves in a cell that held `old`. -/
def Micro.newCell (r : Pane) (old : Cell) (m : Micro) : Cell :=
  match m with
  | .put _ _ cell _ => if m.stores old then cell else old
  | .tint _ _ attr mask => { old with attr := Attr.masked old.attr attr mask }
  | .clearCell _ _ => r.fill
  | .text _ _ cell => cell
  | .load _ _ | .store _ _ | .read _ _ | .readOld _ _ | .putCode _ _ _ | .markEvent _ _ _ _
  | .arrow _ _ _ | .advance _ | .discard | .readBitmap _ _ _ | .refuse _ => old

namespace Micro

variable {m : Micro} (f : Flight) (s : State)

/-- A step keeps the canonical form of the plane. -/
theorem effect_wf (h : s.plane.wf = true) : (m.effect f s).plane.wf = true := by
  rcases effect_plane s f m with e | ⟨a, c, -, e⟩ <;> rw [e]
  · exact h
  · exact Plane.write_wf a c h

/-- A step changes no cell but the one it addresses. -/
theorem effect_cell_other {a : Nat} (ha : m.address (s.pane f.pane).view ≠ some a) :
    (m.effect f s).cell a = s.cell a := by
  unfold State.cell
  rcases effect_plane s f m with e | ⟨b, c, hb, e⟩ <;> rw [e]
  exact Plane.read_write_other c fun hab => ha (hab ▸ hb)

/-- A full write of PLACE or SWEEP, where it stores its code, and nothing where a guard stops it (R8). -/
theorem effect_put (col row : Nat) (cell : Cell) (override : Bool) :
    (Micro.put col row cell override).effect f s =
      if (Micro.put col row cell override).stores
          (s.cell ((s.pane f.pane).view.cellAddr col row)) then
        s.writeCell ((s.pane f.pane).view.cellAddr col row) cell
      else s := by
  simp only [effect, stores]
  cases override <;>
    by_cases h : (s.cell ((s.pane f.pane).view.cellAddr col row)).attr.guarded = true <;> simp [h]

variable (hm : m.isWrite = true)

include hm

/-- A write is a step that addresses a cell. -/
theorem address_of_isWrite (v : PaneView) : ∃ a, m.address v = some a := by
  cases m <;> first | exact ⟨_, rfl⟩ | simp [isWrite] at hm

/-- A write changes the plane and the mark table alone. -/
theorem effect_write_eq :
    m.effect f s = { s with plane := (m.effect f s).plane, marks := (m.effect f s).marks } := by
  cases m <;> simp only [isWrite, reduceCtorEq] at hm
  case put =>
    rw [effect_put]
    split <;> rfl
  case tint | clearCell | text => rfl

/-- A write asks of the command in flight only its pane, and leaves the command as it is. -/
theorem effect_write_flight {g : Flight} (hg : g.pane = f.pane) (k : Option Flight) :
    m.effect g { s with flight := k } = { m.effect f s with flight := k } := by
  cases m <;> simp only [isWrite, reduceCtorEq] at hm
  case put =>
    simp only [effect, State.pane, State.cell, hg]
    split <;> simp only [*] <;> rfl
  case tint | clearCell | text =>
    simp only [effect, State.pane, State.cell, hg]
    rfl

theorem effect_write_pane (p : PaneId) : (m.effect f s).pane p = s.pane p := by
  rw [effect_write_eq f s hm]
  rfl

theorem progress_write : m.progress f s = f := by
  cases m <;> simp only [isWrite, reduceCtorEq] at hm <;> rfl

/-- The addressed cell is what the step makes of it. -/
theorem effect_write_cell {a : Nat} (h : s.plane.wf = true)
    (ha : m.address (s.pane f.pane).view = some a) :
    (m.effect f s).cell a = m.newCell (s.pane f.pane) (s.cell a) := by
  cases m <;> simp only [isWrite, reduceCtorEq] at hm <;>
    simp only [address, Option.some.injEq] at ha <;> subst ha
  case put col row cell override =>
    rw [effect_put, newCell]
    split
    · exact State.cell_writeCell_same _ _ _ h
    · rfl
  case tint => exact State.cell_writeAttr_same _ _ _ h
  case clearCell | text => exact State.cell_writeCell_same _ _ _ h

/-- The marks over the addressed cell go where the step stores a code. -/
theorem effect_write_marks {a : Nat} (ha : m.address (s.pane f.pane).view = some a) :
    (m.effect f s).marks = marksLeft s.marks (if m.stores (s.cell a) then [a] else []) := by
  cases m <;> simp only [isWrite, reduceCtorEq] at hm <;>
    simp only [address, Option.some.injEq] at ha <;> subst ha
  case put col row cell override =>
    rw [effect_put]
    split <;> simp [marksLeft]
  case tint => simp [effect, stores, marksLeft, State.writeAttr]
  case clearCell | text => simp [effect, stores, marksLeft]

end Micro

/-! #### A run of writes -/

/-- The effects of steps, one after another. -/
def runWrites (f : Flight) (todo : List Micro) (s : State) : State :=
  todo.foldl (fun u m => m.effect f u) s

section RunWrites

variable {todo : List Micro} (f : Flight) (s : State)

/-- One change of the plane and the mark table alone after another is such a change. -/
theorem State.eq_write_trans {s t u : State} {plane : Plane} {marks : List Mark}
    (hu : u = { s with plane := plane, marks := marks })
    (ht : t = { u with plane := t.plane, marks := t.marks }) :
    t = { s with plane := t.plane, marks := t.marks } := by
  subst hu
  exact ht

/-- A run of writes changes the plane and the mark table alone. -/
theorem runWrites_eq (hw : ∀ m ∈ todo, m.isWrite = true) :
    runWrites f todo s =
      { s with plane := (runWrites f todo s).plane, marks := (runWrites f todo s).marks } := by
  induction todo generalizing s with
  | nil => rfl
  | cons m rest ih =>
    exact State.eq_write_trans (Micro.effect_write_eq f s (hw m List.mem_cons_self))
      (ih (m.effect f s) fun k hk => hw k (List.mem_cons_of_mem _ hk))

theorem runWrites_flight (hw : ∀ m ∈ todo, m.isWrite = true) {g : Flight} (hg : g.pane = f.pane)
    (k : Option Flight) :
    runWrites g todo { s with flight := k } = { runWrites f todo s with flight := k } := by
  induction todo generalizing s with
  | nil => rfl
  | cons m rest ih =>
    show runWrites g rest (m.effect g { s with flight := k }) = _
    rw [Micro.effect_write_flight f s (hw m List.mem_cons_self) hg]
    exact ih _ fun k hk => hw k (List.mem_cons_of_mem _ hk)

theorem runWrites_wf (h : s.plane.wf = true) : (runWrites f todo s).plane.wf = true := by
  induction todo generalizing s with
  | nil => exact h
  | cons m rest ih => exact ih _ (Micro.effect_wf f s h)

/-- A cell that no step addresses stays. -/
theorem runWrites_cell_other (hw : ∀ m ∈ todo, m.isWrite = true) {a : Nat}
    (ha : ∀ m ∈ todo, m.address (s.pane f.pane).view ≠ some a) :
    (runWrites f todo s).cell a = s.cell a := by
  induction todo generalizing s with
  | nil => rfl
  | cons m rest ih =>
    have hm := hw m List.mem_cons_self
    rw [← Micro.effect_cell_other f s (ha m List.mem_cons_self)]
    refine ih _ (fun k hk => hw k (List.mem_cons_of_mem _ hk)) fun k hk => ?_
    rw [Micro.effect_write_pane f s hm]
    exact ha k (List.mem_cons_of_mem _ hk)

/-- A cell that one step alone addresses is what that step makes of it. -/
theorem runWrites_cell (hw : ∀ m ∈ todo, m.isWrite = true) (h : s.plane.wf = true)
    (hd : todo.Pairwise fun m n =>
      m.address (s.pane f.pane).view ≠ n.address (s.pane f.pane).view)
    {m : Micro} (hm : m ∈ todo) {a : Nat} (ha : m.address (s.pane f.pane).view = some a) :
    (runWrites f todo s).cell a = m.newCell (s.pane f.pane) (s.cell a) := by
  induction todo generalizing s with
  | nil => simp at hm
  | cons k rest ih =>
    obtain ⟨hk, hrest⟩ := List.pairwise_cons.mp hd
    have hkw := hw k List.mem_cons_self
    have hrw : ∀ n ∈ rest, n.isWrite = true := fun n hn => hw n (List.mem_cons_of_mem _ hn)
    have pane := Micro.effect_write_pane f s hkw f.pane
    show (runWrites f rest (k.effect f s)).cell a = _
    rcases List.mem_cons.mp hm with rfl | hm
    · rw [runWrites_cell_other f _ hrw fun n hn => ?_]
      · exact Micro.effect_write_cell f s hkw h ha
      · rw [pane, ← ha]
        exact (hk n hn).symm
    · rw [ih _ hrw (Micro.effect_wf f s h) (by rwa [pane]) hm (by rwa [pane]), pane,
        Micro.effect_cell_other f s (ha ▸ hk m hm)]

/-! #### The marks of a run -/

/-- Marks left by code writes, and then by others. -/
theorem marksLeft_append (marks : List Mark) (front back : List Nat) :
    marksLeft (marksLeft marks front) back = marksLeft marks (front ++ back) := by
  simp [marksLeft, List.filter_filter, List.any_append, Bool.and_comm]

/-- The marks left depend on which cells were written, not on the order. -/
theorem marksLeft_congr (marks : List Mark) {written others : List Nat}
    (h : ∀ a, a ∈ written ↔ a ∈ others) : marksLeft marks written = marksLeft marks others := by
  have any : ∀ k : Mark, written.any k.covers = others.any k.covers := fun k => by
    rw [Bool.eq_iff_iff, List.any_eq_true, List.any_eq_true]
    simp only [h]
  simp only [marksLeft, any]

/-- The address at which a step stores a code in a state, if it does. -/
def Micro.storesAt (v : PaneView) (s : State) (m : Micro) : Option Nat :=
  (m.address v).filter fun a => m.stores (s.cell a)

theorem Micro.storesAt_eq_some {v : PaneView} {s : State} {m : Micro} {a : Nat} :
    m.storesAt v s = some a ↔ m.address v = some a ∧ m.stores (s.cell a) = true :=
  Option.filter_eq_some_iff

/-- A run of writes to different cells removes the marks over the cells it stores a code in. -/
theorem runWrites_marks_filterMap (hw : ∀ m ∈ todo, m.isWrite = true)
    (hd : todo.Pairwise fun m n =>
      m.address (s.pane f.pane).view ≠ n.address (s.pane f.pane).view) :
    (runWrites f todo s).marks =
      marksLeft s.marks (todo.filterMap (Micro.storesAt (s.pane f.pane).view s)) := by
  induction todo generalizing s with
  | nil => simp [runWrites, marksLeft]
  | cons m rest ih =>
    obtain ⟨hm, hrest⟩ := List.pairwise_cons.mp hd
    have hmw := hw m List.mem_cons_self
    have pane := Micro.effect_write_pane f s hmw f.pane
    obtain ⟨a, ha⟩ := Micro.address_of_isWrite hmw (s.pane f.pane).view
    have later : rest.filterMap (Micro.storesAt (s.pane f.pane).view (m.effect f s)) =
        rest.filterMap (Micro.storesAt (s.pane f.pane).view s) :=
      List.filterMap_congr fun n hn => by
        unfold Micro.storesAt
        cases hb : n.address (s.pane f.pane).view with
        | none => rfl
        | some b =>
          simp only [Option.filter, Micro.effect_cell_other f s fun e => hm n hn (e.trans hb.symm)]
    have first : (Micro.storesAt (s.pane f.pane).view s m).toList =
        if m.stores (s.cell a) then [a] else [] := by
      rw [Micro.storesAt, ha]
      cases h : m.stores (s.cell a) <;> simp [Option.filter, h]
    show (runWrites f rest (m.effect f s)).marks = _
    rw [ih _ (fun n hn => hw n (List.mem_cons_of_mem _ hn)) (by rwa [pane]), pane, later,
      Micro.effect_write_marks f s hmw ha, marksLeft_append, ← first]
    refine marksLeft_congr _ fun b => ?_
    simp [List.mem_filterMap]

/-- The marks a run of writes to different cells leaves, given the cells it stores a code in. -/
theorem runWrites_marks (hw : ∀ m ∈ todo, m.isWrite = true)
    (hd : todo.Pairwise fun m n =>
      m.address (s.pane f.pane).view ≠ n.address (s.pane f.pane).view)
    {written : List Nat}
    (h : ∀ a, a ∈ written ↔
      ∃ m ∈ todo, m.address (s.pane f.pane).view = some a ∧ m.stores (s.cell a) = true) :
    (runWrites f todo s).marks = marksLeft s.marks written := by
  rw [runWrites_marks_filterMap f s hw hd]
  refine marksLeft_congr _ fun a => ?_
  rw [h, List.mem_filterMap]
  simp only [Micro.storesAt_eq_some]

end RunWrites

end Sys2Proof.Machine
end

section
/-! ### A command of writes carried to its end (R87, R94) -/

namespace Sys2Proof.Machine

variable {s : State} {f : Flight}

/-- The engine does the next step where the address it forms, if any, is one of the plane. -/
theorem engineStep_cons {m : Micro} {rest : List Micro} (hf : s.flight = some f)
    (ht : f.todo = m :: rest)
    (ha : ∀ a, m.address (s.pane f.pane).view = some a → a < Config.planeSize) :
    engineStep s = .next (s.stepDone f m rest) := by
  simp only [engineStep, hf, ht]
  split
  · rename_i a e
    rw [if_pos (ha a e)]
  · rfl

/-- The last step of a command completes it. -/
theorem State.stepDone_last (m : Micro) :
    s.stepDone f m [] = (m.effect f s).complete f.port := by
  simp [State.stepDone, dropIdleMark]

/-- A write with another behind it leaves the command in flight with the rest of its steps. -/
theorem State.stepDone_write {m k : Micro} {rest : List Micro} (hm : m.isWrite = true)
    (hk : k.isWrite = true) :
    s.stepDone f m (k :: rest) = { m.effect f s with flight := some { f with todo := k :: rest } } := by
  have keep : dropIdleMark f.old (k :: rest) = k :: rest := by
    cases k <;> first | rfl | simp [Micro.isWrite] at hk
  simp [State.stepDone, Micro.progress_write f s hm, keep]

/-- A command in flight whose steps left are writes in its pane runs them all and completes. -/
theorem engineSteps_writes (m : Micro) (rest : List Micro) (hf : s.flight = some f)
    (ht : f.todo = m :: rest) (hw : ∀ k ∈ m :: rest, k.isWrite = true)
    (hfit : ∀ k ∈ m :: rest, k.fits (s.pane f.pane))
    (hl : (s.pane f.pane).defined = true → (s.pane f.pane).view.Legal) :
    engineSteps (m :: rest).length s = .next ((runWrites f (m :: rest) s).complete f.port) := by
  have hm := hw m List.mem_cons_self
  have step : engineStep s = .next (s.stepDone f m rest) :=
    engineStep_cons hf ht fun a ha => (hfit m List.mem_cons_self).address_lt hl ha
  induction rest generalizing s f m with
  | nil => simp only [List.length_singleton, engineSteps, step, State.stepDone_last]; rfl
  | cons k rest ih =>
    have hk := hw k (by simp)
    have hrw : ∀ n ∈ k :: rest, n.isWrite = true := fun n hn => hw n (List.mem_cons_of_mem _ hn)
    have pane := Micro.effect_write_pane f s hm f.pane
    obtain ⟨g, hg⟩ : ∃ g, g = { f with todo := k :: rest } := ⟨_, rfl⟩
    have gpane : g.pane = f.pane := by rw [hg]
    obtain ⟨u, hu⟩ : ∃ u, u = { m.effect f s with flight := some g } := ⟨_, rfl⟩
    have upane : u.pane g.pane = s.pane f.pane := by rw [hu, gpane]; exact pane
    have ufit : ∀ n ∈ k :: rest, n.fits (u.pane g.pane) := fun n hn => by
      rw [upane]
      exact hfit n (List.mem_cons_of_mem _ hn)
    have ul : (u.pane g.pane).defined = true → (u.pane g.pane).view.Legal := by rwa [upane]
    have uflight : u.flight = some g := by rw [hu]
    have gtodo : g.todo = k :: rest := by rw [hg]
    rw [State.stepDone_write hm hk, ← hg, ← hu] at step
    calc engineSteps (m :: k :: rest).length s
        = engineSteps (k :: rest).length u := by simp only [List.length_cons, engineSteps, step]
      _ = .next ((runWrites g (k :: rest) u).complete g.port) :=
          ih k uflight gtodo hrw ufit ul hk
            (engineStep_cons uflight gtodo fun a ha => (ufit k List.mem_cons_self).address_lt ul ha)
      _ = .next ((runWrites f (m :: k :: rest) s).complete f.port) := by
          rw [hu, runWrites_flight f _ hrw gpane, hg]
          rfl

/-- A command that begins with writes in its pane as its steps runs them all and completes. -/
theorem finishFlight_takeFlight {x : Port} {cut : Bool} {todo : List Micro} (hf : s.flight = some f)
    (hx : f.port = x) (hw : ∀ m ∈ todo, m.isWrite = true)
    (hfit : ∀ m ∈ todo, m.fits (s.pane f.pane))
    (hl : (s.pane f.pane).defined = true → (s.pane f.pane).view.Legal) :
    finishFlight ((s.takeFlight x cut todo).completeIfDone x) =
      .next ((runWrites f todo (s.setClip x cut)).complete x) := by
  have taken : s.takeFlight x cut todo =
      { s.setClip x cut with flight := some { f with todo := todo } } := by
    simp [State.takeFlight, State.toDo, hf]
  have pane : (s.setClip x cut).pane f.pane = s.pane f.pane := by
    unfold State.pane
    rw [State.setClip_panes]
  cases todo with
  | nil =>
    rw [taken, State.completeIfDone_nil x rfl rfl]
    exact finishFlight_none rfl
  | cons m rest =>
    rw [taken, State.completeIfDone_cons x rfl rfl]
    obtain ⟨g, hg⟩ : ∃ g, g = { f with todo := m :: rest } := ⟨_, rfl⟩
    have gpane : g.pane = f.pane := by rw [hg]
    have gport : g.port = x := by rw [hg, ← hx]
    obtain ⟨u, hu⟩ : ∃ u, u = { s.setClip x cut with flight := some g } := ⟨_, rfl⟩
    have upane : u.pane g.pane = s.pane f.pane := by rw [hu, gpane]; exact pane
    rw [← hg, ← hu]
    have run : engineSteps (m :: rest).length u = .next ((runWrites g (m :: rest) u).complete g.port) :=
      engineSteps_writes m rest (by rw [hu]) (by rw [hg]) hw (by rwa [upane]) (by rwa [upane])
    have left : u.stepsLeft = (m :: rest).length := by rw [hu, hg]; rfl
    rw [finishFlight, left, run, gport, hu, runWrites_flight f _ hw gpane]
    rfl

/-- With nothing in flight and nothing reserved there is nothing to complete. -/
theorem State.complete_idle {x : Port} (hf : s.flight = none) (hr : (s.port x).reserved = 0) :
    s.complete x = s := by
  have released : (s.port x).releaseReserved = s.port x := by
    rw [PortState.releaseReserved, ← hr]
  show ({ s with flight := none } : State).setPort x (s.port x).releaseReserved = s
  rw [released, ← hf]
  exact s.setPort_port x

/-- A delivered command has its reply room reserved, whatever CLIP becomes. -/
theorem State.delivered_setClip_reserved (s : State) (x : Port) (c : Command) (cut : Bool) :
    (((s.delivered x c).setClip x cut).port x).reserved = replyNeed (some c) := by
  cases cut <;> simp [State.setClip, State.delivered]

/-- The row of a command that is taken with writes in its pane as its steps, on a port served at once,
runs them on the state its delivery and CLIP leave. -/
theorem exec_of_writes {i : Instr} {x : Port} {c : Command} {cut : Bool} {todo : List Micro}
    (hi : i.command = some (x, c)) (hc : c.WellFormed = true) (hfree : s.freeFor x c = true)
    (hstart : startCommand x c (s.grantedNow x c) = (s.grantedNow x c).takeFlight x cut todo)
    (hneed : replyNeed (some c) = 0) (hw : ∀ m ∈ todo, m.isWrite = true)
    (hfit : ∀ m ∈ todo, m.fits (s.pane (Command.named c))) (hl : (s.pane (Command.named c)).view.Legal)
    (hf : f = ⟨x, encodeCommand c, Command.named c, [], none, []⟩) :
    exec i s = .next (runWrites f todo ((s.delivered x c).setClip x cut)) := by
  set u := (s.delivered x c).setClip x cut with hu
  have granted : (s.grantedNow x c).setClip x cut = { u with flight := some f } := by
    rw [hu, hf]
    cases cut <;> rfl
  have only := runWrites_eq f u hw
  have idle : (runWrites f todo u).flight = none := by
    rw [only]
    simp [hu, (State.servedAtOnce hfree).idle]
  have unreserved : ((runWrites f todo u).port x).reserved = 0 := by
    rw [only]
    exact (State.delivered_setClip_reserved s x c cut).trans hneed
  have flight : (s.grantedNow x c).flight = some f := by rw [hf]; rfl
  have pane : (s.grantedNow x c).pane f.pane = s.pane (Command.named c) := by rw [hf]; rfl
  rw [exec_of_freeFor hi hc hfree, State.begun_eq, beginCommand, hstart,
    finishFlight_takeFlight flight (by rw [hf]) hw (by rwa [pane]) (by rw [pane]; exact fun _ => hl),
    granted, runWrites_flight f u hw rfl]
  exact congrArg _ (State.complete_idle idle unreserved)

end Sys2Proof.Machine
end

section
/-! ### PLACE, SWEEP and TINT (R95-R98, R102) -/

namespace Sys2Proof.Machine

variable {s : State} {x : Port} {p : PaneId}

/-! #### What a row of writes to different cells leaves -/

/-- The row of a command whose steps write different cells of its pane: each cell is what its step makes of
it, no other cell changes, and the marks over the cells in which a code is stored go. -/
theorem exec_of_distinct_writes {i : Instr} {c : Command} {cut : Bool} {todo : List Micro}
    {r : Pane} {written : List Nat}
    (hi : i.command = some (x, c)) (hc : c.WellFormed = true) (hfree : s.freeFor x c = true)
    (hstart : startCommand x c (s.grantedNow x c) = (s.grantedNow x c).takeFlight x cut todo)
    (hneed : replyNeed (some c) = 0) (hr : r = s.pane (Command.named c)) (hl : r.view.Legal)
    (hwf : s.plane.wf = true) (hw : ∀ m ∈ todo, m.isWrite = true) (hfit : ∀ m ∈ todo, m.fits r)
    (hd : todo.Pairwise fun m n => m.address r.view ≠ n.address r.view)
    (hwritten : ∀ a, a ∈ written ↔
      ∃ m ∈ todo, m.address r.view = some a ∧ m.stores (s.cell a) = true) :
    ∃ t, exec i s = .next t ∧ t.plane.wf = true ∧
      (∀ m ∈ todo, ∀ a, m.address r.view = some a → t.cell a = m.newCell r (s.cell a)) ∧
      (∀ a, (∀ m ∈ todo, m.address r.view = some a → m.newCell r (s.cell a) = s.cell a) →
        t.cell a = s.cell a) ∧
      t = { (s.delivered x c).setClip x cut with
        plane := t.plane, marks := marksLeft s.marks written } := by
  obtain ⟨f, hf⟩ : ∃ f : Flight, f = ⟨x, encodeCommand c, Command.named c, [], none, []⟩ := ⟨_, rfl⟩
  set u := (s.delivered x c).setClip x cut with hu
  have plane : u.plane = s.plane := by rw [hu, State.setClip_plane]; rfl
  have cell : ∀ a, u.cell a = s.cell a := fun a => by unfold State.cell; rw [plane]
  have pane : u.pane f.pane = r := by
    rw [hr, hf]
    unfold State.pane
    rw [hu, State.setClip_panes]
    rfl
  have marks : u.marks = s.marks := by rw [hu, State.setClip_marks]; rfl
  subst hr
  have run := exec_of_writes hi hc hfree hstart hneed hw hfit hl hf
  have made : ∀ m ∈ todo, ∀ a, m.address (s.pane (Command.named c)).view = some a →
      (runWrites f todo u).cell a = m.newCell (s.pane (Command.named c)) (s.cell a) := by
    intro m hm a ha
    rw [runWrites_cell f u hw (by rwa [plane]) (by rwa [pane]) hm (by rwa [pane]), pane, cell]
  refine ⟨runWrites f todo u, run, runWrites_wf f u (by rwa [plane]), made, fun a ha => ?_, ?_⟩
  · by_cases reached : ∃ m ∈ todo, m.address (s.pane (Command.named c)).view = some a
    · obtain ⟨m, hm, haddr⟩ := reached
      rw [made m hm a haddr, ha m hm haddr]
    · rw [runWrites_cell_other f u hw fun m hm h => reached ⟨m, hm, by rwa [pane] at h⟩, cell]
  · have left := runWrites_marks f u hw (by rwa [pane]) (written := written) (by
      simpa only [pane, cell] using hwritten)
    rw [marks] at left
    rw [← left]
    exact runWrites_eq f u hw

/-- Steps at different positions of a legal pane address different cells. -/
theorem pairwise_address_ne {α : Type} {v : PaneView} (hl : v.Legal) {l : List α} {pos : α → Nat × Nat}
    {step : α → Micro} (hpos : (l.map pos).Nodup)
    (haddr : ∀ e ∈ l, (step e).address v = some (v.cellAddr (pos e).1 (pos e).2))
    (hin : ∀ e ∈ l, (pos e).1 < v.width ∧ (pos e).2 < v.height) :
    (l.map step).Pairwise fun m n => m.address v ≠ n.address v := by
  rw [List.Nodup, List.pairwise_map] at hpos
  rw [List.pairwise_map]
  refine hpos.imp_of_mem fun {e d} he hd hne hsame => hne ?_
  rw [haddr e he, haddr d hd, Option.some.injEq] at hsame
  obtain ⟨hec, her⟩ := hin e he
  obtain ⟨hdc, hdr⟩ := hin d hd
  obtain ⟨hcol, hrow⟩ := hl.cellAddr_inj hec hdc her hdr hsame
  exact Prod.ext hcol hrow

/-- A command with a verdict of none passes every one of its checks (R92). -/
theorem State.checks_passed {c : Command} (h : s.verdict x c = none) :
    ∀ e ∈ s.checks x c, e.1 = false := by
  simpa [State.verdict] using h

/-! #### PLACE -/

theorem mem_placeSteps {v : PaneView} {row col : Nat} {attr : Attr} {codes : List Code} {m : Micro} :
    m ∈ placeSteps v row col attr codes ↔
      ∃ (k : Nat) (code : Code), codes[k]? = some code ∧ col + k < v.width ∧
        m = .put (col + k) row ⟨code, attr⟩ false := by
  simp only [placeSteps, List.mem_map, Prod.exists, List.mem_zipIdx_iff_getElem?, List.getElem?_take]
  constructor
  · rintro ⟨code, k, h, rfl⟩
    split at h
    · exact ⟨k, code, h, by omega, rfl⟩
    · simp at h
  · rintro ⟨k, code, h, hk, rfl⟩
    exact ⟨code, k, by rw [if_pos (by omega)]; exact h, rfl⟩

/-- What a PLACE that passes its checks has: an owned, defined pane and a row of it (R95). -/
theorem State.place_passes {row col : Nat} {attr : Attr} {codes : List Code}
    (h : s.verdict x (.place p row col attr codes) = none) :
    s.owns x p = true ∧ (s.pane p).defined = true ∧ row < (s.pane p).view.height := by
  have checks := State.checks_passed h
  simpa [State.checks, Command.ownerPane, State.owns, Pane.defined] using checks

/-- A PLACE that passes its checks is taken with its steps, and CLIP is set where a code lies past the
width (R95). -/
theorem startCommand_place {row col : Nat} {attr : Attr} {codes : List Code} {t : State}
    (h : t.verdict x (.place p row col attr codes) = none) (hcodes : 1 ≤ codes.length) :
    startCommand x (.place p row col attr codes) t =
      t.takeFlight x (decide ((t.pane p).view.width < col + codes.length))
        (placeSteps (t.pane p).view row col attr codes) := by
  obtain ⟨howns, hdefined, hrow⟩ := State.place_passes h
  have cut : (decide ((t.pane p).view.width ≤ col) ||
      decide ((t.pane p).view.width < col + codes.length)) =
        decide ((t.pane p).view.width < col + codes.length) := by
    rw [← Bool.decide_or, decide_eq_decide]
    omega
  simp only [startCommand, beginPlace, howns, hdefined, Bool.not_true, if_neg (Nat.not_le.mpr hrow), cut]
  rfl

/-- Settles O37: PLACE's steps write different cells, and store where no guard stops them. -/
theorem placeWritesItsColumns : Obligations.PlaceWritesItsColumns := by
  intro s x p row col attr codes v written hc hfree hv hview hl hwf hwritten
  subst hview
  have hlen : 1 ≤ codes.length := by
    simp only [Command.WellFormed, Bool.and_eq_true, decide_eq_true_eq] at hc
    obtain ⟨⟨-, hlow⟩, -⟩ := hc
    exact hlow
  obtain ⟨-, hdefined, hrow⟩ := State.place_passes hv
  have stored : ∀ a, a ∈ written ↔ ∃ m ∈ placeSteps (s.pane p).view row col attr codes,
      m.address (s.pane p).view = some a ∧ m.stores (s.cell a) = true := fun a => by
    rw [hwritten]
    simp only [List.mem_map, List.mem_filter, List.mem_range, Bool.and_eq_true, decide_eq_true_eq,
      mem_placeSteps]
    constructor
    · rintro ⟨k, ⟨hk, hcol, hopen⟩, rfl⟩
      exact ⟨_, ⟨k, codes[k], List.getElem?_eq_getElem hk, hcol, rfl⟩, rfl, hopen⟩
    · rintro ⟨_, ⟨k, code, hk, hcol, rfl⟩, ha, hopen⟩
      cases ha
      exact ⟨k, ⟨(List.getElem?_eq_some_iff.mp hk).1, hcol, hopen⟩, rfl⟩
  have distinct : (placeSteps (s.pane p).view row col attr codes).Pairwise fun m n =>
      m.address (s.pane p).view ≠ n.address (s.pane p).view := by
    refine pairwise_address_ne hl (pos := fun e => (col + e.2, row)) ?_ (fun _ _ => rfl) ?_
    · have index : ∀ l : List (Code × Nat), l.map (fun e => (col + e.2, row)) =
          (l.map Prod.snd).map fun k => (col + k, row) := fun l => by simp
      rw [index, List.zipIdx_map_snd]
      exact List.Nodup.map (fun k j h => by simpa using h) List.nodup_range'
    · intro e he
      have hk := List.snd_lt_of_mem_zipIdx he
      rw [List.length_take] at hk
      exact ⟨by omega, hrow⟩
  obtain ⟨t, hexec, hplane, hcell, hother, ht⟩ :=
    exec_of_distinct_writes (i := .place x p row col attr codes) rfl hc hfree
      (startCommand_place hv hlen) rfl rfl hl hwf
      (fun m hm => by obtain ⟨_, _, -, -, rfl⟩ := mem_placeSteps.mp hm; rfl)
      (placeSteps_fits hdefined hrow col attr codes) distinct stored
  refine ⟨t, hexec, hplane, fun k code hk ha hcol => ?_, fun a ha => ?_, ht⟩
  · have hstep : Micro.put (col + k) row ⟨code, attr⟩ false ∈
        placeSteps (s.pane p).view row col attr codes := mem_placeSteps.mpr ⟨k, code, hk, hcol, rfl⟩
    have hopen : (Micro.put (col + k) row ⟨code, attr⟩ false).stores
        (s.cell ((s.pane p).view.cellAddr (col + k) row)) = true := by
      obtain ⟨m, hm, haddr, hopen⟩ := (stored _).mp ha
      obtain ⟨_, _, -, -, rfl⟩ := mem_placeSteps.mp hm
      exact hopen
    exact (hcell _ hstep _ rfl).trans (if_pos hopen)
  · refine hother a fun m hm haddr => ?_
    have hclosed : ¬ m.stores (s.cell a) = true := fun h => ha ((stored a).mpr ⟨m, hm, haddr, h⟩)
    obtain ⟨_, _, -, -, rfl⟩ := mem_placeSteps.mp hm
    rw [Micro.newCell, if_neg hclosed]

/-! #### SWEEP and TINT -/

/-- A rectangle visits each of its cells once. -/
theorem nodup_rectCells (col row w h : Nat) : (rectCells col row w h).Nodup := by
  refine List.nodup_flatMap.mpr ⟨fun j _ => ?_, ?_⟩
  · exact List.Nodup.map (fun k i e => by simpa using e) List.nodup_range
  · refine List.nodup_range.imp fun {j i} hne e hj hi => hne ?_
    obtain ⟨_, -, rfl⟩ := List.mem_map.mp hj
    obtain ⟨_, -, he⟩ := List.mem_map.mp hi
    simpa using (congrArg Prod.snd he).symm

/-- The clipped cells of a rectangle are the pane's cells in it (R97). -/
theorem mem_clippedCells {v : PaneView} {col row w h : Nat} {e : Nat × Nat} :
    e ∈ v.clippedCells col row w h ↔ (e.1 < v.width ∧ e.2 < v.height) ∧
      (row ≤ e.2 ∧ e.2 < row + h) ∧ col ≤ e.1 ∧ e.1 < col + w := by
  rw [PaneView.clippedCells, mem_rectCells]
  unfold clipped
  omega

/-- A rectangle with no column or no row has no cells. -/
theorem clippedCells_empty {v : PaneView} {col row w h : Nat} (hempty : w = 0 ∨ h = 0) :
    v.clippedCells col row w h = [] :=
  List.eq_nil_iff_forall_not_mem.mpr fun e he => by
    have := mem_clippedCells.mp he
    omega

/-- The addresses of the pane's cells in a rectangle, row by row, are those of its clipped cells. -/
theorem mem_addresses_rectangle {v : PaneView} {col row w h a : Nat} :
    a ∈ v.addresses ((List.range v.height).flatMap fun r =>
        ((List.range v.width).filter fun k => row ≤ r && r < row + h && col ≤ k && k < col + w).map
          fun k => (k, r)) ↔
      ∃ e ∈ v.clippedCells col row w h, v.cellAddr e.1 e.2 = a := by
  simp only [PaneView.addresses, List.mem_map, List.mem_flatMap, List.mem_filter, List.mem_range,
    Bool.and_eq_true, decide_eq_true_eq, mem_clippedCells]
  constructor
  · rintro ⟨_, ⟨r, hr, k, ⟨hk, ⟨⟨hlow, hhigh⟩, hleft⟩, hright⟩, rfl⟩, rfl⟩
    exact ⟨(k, r), ⟨⟨hk, hr⟩, ⟨hlow, hhigh⟩, hleft, hright⟩, rfl⟩
  · rintro ⟨⟨k, r⟩, ⟨⟨hk, hr⟩, ⟨hlow, hhigh⟩, hleft, hright⟩, rfl⟩
    exact ⟨(k, r), ⟨r, hr, k, ⟨hk, ⟨⟨hlow, hhigh⟩, hleft⟩, hright⟩, rfl⟩, rfl⟩

/-- Steps at the clipped cells of a rectangle address different cells. -/
theorem pairwise_clippedCells {v : PaneView} (hl : v.Legal) (col row w h : Nat)
    {step : Nat × Nat → Micro} (haddr : ∀ e, (step e).address v = some (v.cellAddr e.1 e.2)) :
    ((v.clippedCells col row w h).map step).Pairwise fun m n => m.address v ≠ n.address v :=
  pairwise_address_ne hl (pos := id)
    (by rw [List.map_id]; exact nodup_rectCells _ _ _ _) (fun e _ => haddr e)
    fun _ he => (mem_clippedCells.mp he).1

/-- CLIP of a rectangle, as its rule says it (R97). -/
theorem PaneView.cuts_eq (v : PaneView) (col row w h : Nat) :
    v.cuts col row w h =
      decide (w ≠ 0 ∧ h ≠ 0 ∧ (v.width < col + w ∨ v.height < row + h)) := by
  simp [PaneView.cuts, Bool.and_assoc]

/-- What a SWEEP that passes its checks has: an owned, defined pane (R97). -/
theorem State.sweep_passes {row col w h : Nat} {code : Code} {attr : Attr} {override : Bool}
    (hv : s.verdict x (.sweep p row col w h code attr override) = none) :
    s.owns x p = true ∧ (s.pane p).defined = true := by
  have checks := State.checks_passed hv
  simpa [State.checks, Command.ownerPane, State.owns, Pane.defined] using checks

/-- A SWEEP that passes its checks is taken with its steps (R97). -/
theorem startCommand_sweep {row col w h : Nat} {code : Code} {attr : Attr} {override : Bool}
    {t : State} (hv : t.verdict x (.sweep p row col w h code attr override) = none) :
    startCommand x (.sweep p row col w h code attr override) t =
      t.takeFlight x
        (decide (w ≠ 0 ∧ h ≠ 0 ∧
          ((t.pane p).view.width < col + w ∨ (t.pane p).view.height < row + h)))
        (sweepSteps (t.pane p).view row col w h ⟨code, attr⟩ override) := by
  obtain ⟨howns, hdefined⟩ := State.sweep_passes hv
  have steps : (if w = 0 ∨ h = 0 then []
      else sweepSteps (t.pane p).view row col w h ⟨code, attr⟩ override) =
        sweepSteps (t.pane p).view row col w h ⟨code, attr⟩ override := by
    split
    · rename_i hempty
      rw [sweepSteps, clippedCells_empty hempty, List.map_nil]
    · rfl
  simp only [startCommand, beginSweep, howns, hdefined, steps, PaneView.cuts_eq]
  rfl

/-- Settles O38: SWEEP's steps write the different cells of its clipped rectangle. -/
theorem sweepFillsTheRectangle : Obligations.SweepFillsTheRectangle := by
  intro s x p row col w h code attr override v written hc hfree hv hview hl hwf hwritten
  subst hview
  obtain ⟨-, hdefined⟩ := State.sweep_passes hv
  have stored : ∀ a, a ∈ written ↔
      ∃ m ∈ sweepSteps (s.pane p).view row col w h ⟨code, attr⟩ override,
        m.address (s.pane p).view = some a ∧ m.stores (s.cell a) = true := fun a => by
    rw [hwritten, List.mem_filter, mem_addresses_rectangle]
    simp only [sweepSteps, List.mem_map]
    constructor
    · rintro ⟨⟨e, he, rfl⟩, hopen⟩
      exact ⟨_, ⟨e, he, rfl⟩, rfl, hopen⟩
    · rintro ⟨_, ⟨e, he, rfl⟩, ha, hopen⟩
      exact ⟨⟨e, he, Option.some.inj ha⟩, hopen⟩
  obtain ⟨t, hexec, hplane, hcell, hother, ht⟩ :=
    exec_of_distinct_writes (i := .sweep x p row col w h code attr override) rfl hc hfree
      (startCommand_sweep hv) rfl rfl hl hwf
      (fun m hm => by obtain ⟨_, -, rfl⟩ := List.mem_map.mp hm; rfl)
      (sweepSteps_fits hdefined row col w h _ override)
      (pairwise_clippedCells hl col row w h fun _ => rfl) stored
  refine ⟨t, hexec, hplane, fun a ha => ?_, fun a ha => ?_, ht⟩
  · obtain ⟨m, hm, haddr, hopen⟩ := (stored a).mp ha
    rw [hcell m hm a haddr]
    obtain ⟨_, -, rfl⟩ := List.mem_map.mp hm
    rw [Micro.newCell, if_pos hopen]
  · refine hother a fun m hm haddr => ?_
    have hclosed : ¬ m.stores (s.cell a) = true := fun h => ha ((stored a).mpr ⟨m, hm, haddr, h⟩)
    obtain ⟨_, -, rfl⟩ := List.mem_map.mp hm
    rw [Micro.newCell, if_neg hclosed]

/-! #### TINT -/

/-- A mask that selects no field leaves every field (R102). -/
theorem Attr.masked_of_isEmpty {mask : AttrMask} (h : AttrMask.isEmpty mask = true) (old new : Attr) :
    Attr.masked old new mask = old := by
  simp only [AttrMask.isEmpty, Bool.not_eq_true', Bool.or_eq_false_iff] at h
  simp [Attr.masked, h]

/-- What a TINT that passes its checks has: an owned, defined pane (R102). -/
theorem State.tint_passes {row col w h : Nat} {attr : Attr} {mask : AttrMask}
    (hv : s.verdict x (.tint p row col w h attr mask) = none) :
    s.owns x p = true ∧ (s.pane p).defined = true := by
  have checks := State.checks_passed hv
  simpa [State.checks, Command.ownerPane, State.owns, Pane.defined] using checks

/-- A TINT that passes its checks is taken with its steps, and sets CLIP whatever its mask (R102). -/
theorem startCommand_tint {row col w h : Nat} {attr : Attr} {mask : AttrMask} {t : State}
    (hv : t.verdict x (.tint p row col w h attr mask) = none) :
    startCommand x (.tint p row col w h attr mask) t =
      t.takeFlight x
        (decide (w ≠ 0 ∧ h ≠ 0 ∧
          ((t.pane p).view.width < col + w ∨ (t.pane p).view.height < row + h)))
        (tintSteps (t.pane p).view row col w h attr mask) := by
  obtain ⟨howns, hdefined⟩ := State.tint_passes hv
  have steps : (if w = 0 ∨ h = 0 then [] else tintSteps (t.pane p).view row col w h attr mask) =
      tintSteps (t.pane p).view row col w h attr mask := by
    split
    · rename_i hempty
      rw [tintSteps, clippedCells_empty hempty, List.map_nil, ite_self]
    · rfl
  simp only [startCommand, beginTint, howns, hdefined, steps, PaneView.cuts_eq]
  rfl

/-- The steps of a TINT whose mask selects some field write the fields of its rectangle's cells. -/
theorem mem_tintSteps {v : PaneView} {row col w h : Nat} {attr : Attr} {mask : AttrMask} {m : Micro} :
    m ∈ tintSteps v row col w h attr mask ↔ AttrMask.isEmpty mask = false ∧
      ∃ e ∈ v.clippedCells col row w h, m = .tint e.1 e.2 attr mask := by
  cases hmask : AttrMask.isEmpty mask with
  | true => simp [tintSteps, hmask]
  | false =>
    simp only [tintSteps, hmask, Bool.false_eq_true, if_false, List.mem_map, true_and]
    exact exists_congr fun e => and_congr_right' eq_comm

/-- Settles O40: TINT's steps store no code, and write the different cells of its clipped rectangle. -/
theorem tintSetsTheSelectedFields : Obligations.TintSetsTheSelectedFields := by
  intro s x p row col w h attr mask v reached hc hfree hv hview hl hwf hreached
  subst hview
  obtain ⟨-, hdefined⟩ := State.tint_passes hv
  have unstored : ∀ a, a ∈ ([] : List Nat) ↔ ∃ m ∈ tintSteps (s.pane p).view row col w h attr mask,
      m.address (s.pane p).view = some a ∧ m.stores (s.cell a) = true := fun a => by
    simp only [List.not_mem_nil, false_iff, not_exists, not_and]
    intro m hm
    obtain ⟨-, _, -, rfl⟩ := mem_tintSteps.mp hm
    simp [Micro.stores]
  have distinct : (tintSteps (s.pane p).view row col w h attr mask).Pairwise fun m n =>
      m.address (s.pane p).view ≠ n.address (s.pane p).view := by
    unfold tintSteps
    split
    · exact .nil
    · exact pairwise_clippedCells hl col row w h fun _ => rfl
  obtain ⟨t, hexec, hplane, hcell, hother, ht⟩ :=
    exec_of_distinct_writes (i := .tint x p row col w h attr mask) rfl hc hfree
      (startCommand_tint hv) rfl rfl hl hwf
      (fun m hm => by obtain ⟨-, _, -, rfl⟩ := mem_tintSteps.mp hm; rfl)
      (tintSteps_fits hdefined row col w h attr mask) distinct unstored
  refine ⟨t, hexec, hplane, fun a ha => ?_, fun a ha => ?_, ?_⟩
  · show t.cell a = { s.cell a with attr := Attr.masked (s.cell a).attr attr mask }
    rw [hreached, mem_addresses_rectangle] at ha
    obtain ⟨e, he, haddr⟩ := ha
    cases hmask : AttrMask.isEmpty mask with
    | true =>
      rw [Attr.masked_of_isEmpty hmask]
      exact hother a fun m hm _ => absurd (mem_tintSteps.mp hm).1 (by simp [hmask])
    | false => exact hcell _ (mem_tintSteps.mpr ⟨hmask, e, he, rfl⟩) a (congrArg some haddr)
  · refine hother a fun m hm haddr => absurd ?_ ha
    obtain ⟨-, e, he, rfl⟩ := mem_tintSteps.mp hm
    rw [hreached, mem_addresses_rectangle]
    exact ⟨e, he, Option.some.inj haddr⟩
  · have marks : ∀ cut, marksLeft s.marks [] =
        ((s.delivered x (.tint p row col w h attr mask)).setClip x cut).marks := fun cut => by
      rw [State.setClip_marks, State.delivered_marks]
      simp [marksLeft]
    rw [marks] at ht
    exact ht

end Sys2Proof.Machine
end

section
/-! ### The values POWER_ON_RESET leaves (R14, R16, R31, R147, R194) -/

namespace Sys2Proof.Machine

/-- The owner each level of OSEL gives a pane, as R31 lists them. -/
theorem ownerFor_eq (osel : Fin 4) (p : PaneId) :
    ownerFor osel p.val =
      if osel = 0 then none
      else if osel = 1 then some .a
      else if osel = 2 then (if p.val ≤ 7 then some .a else some .b)
      else if p.val ≤ 5 then some .a
      else if p.val ≤ 11 then some .b
      else some .c := by
  match osel with
  | 0 | 1 => rfl
  | 2 | 3 => simp [ownerFor, Nat.lt_succ_iff]

section

variable (osel tsel : Fin 4) (s : State)

theorem onPowerOnReset_pane (p : PaneId) :
    (onPowerOnReset osel tsel s).pane p = Pane.atReset (ownerFor osel p.val) := by
  simp [State.pane, onPowerOnReset]

theorem onPowerOnReset_shownPane (p : PaneId) :
    (onPowerOnReset osel tsel s).shownPane p = PaneView.atReset := by
  simp [State.shownPane, onPowerOnReset, State.reset]

/-- Each port takes its reset state but for the levels of its lines (log 11). -/
theorem onPowerOnReset_port (x : Port) :
    (onPowerOnReset osel tsel s).port x = (s.port x).powerOn :=
  Ports.get_map s.ports PortState.powerOn x

/-- Every pixel of the RAM glyphs and of the patch slots is off, and no slot is enabled. -/
theorem onPowerOnReset_glyphs :
    (∀ i : Fin 128, ∀ k : Fin 16, (onPowerOnReset osel tsel s).ramGlyphs[i][k] = 0) ∧
      ∀ i : Fin 8, ((onPowerOnReset osel tsel s).slots[i].code = 0 ∧
        (onPowerOnReset osel tsel s).slots[i].enabled = false) ∧
        ∀ k : Fin 16, (onPowerOnReset osel tsel s).slots[i].bitmap[k] = 0 := by
  simp [onPowerOnReset, State.reset, Bitmap.blank]

end

/-- Settles O3: what is not read off the definition is the owners, the glyph stores and the ports. -/
theorem powerOnResetLeavesTheResetValues : Obligations.PowerOnResetLeavesTheResetValues := by
  intro osel tsel s
  refine ⟨onPowerOnReset osel tsel s, rfl, ⟨rfl, rfl, rfl, fun _ => rfl⟩, fun p => ⟨?_, ?_⟩,
    ⟨rfl, rfl⟩, rfl, onPowerOnReset_glyphs osel tsel s,
    ⟨rfl, rfl, rfl, rfl, rfl, rfl, rfl, rfl, rfl, rfl⟩, ⟨rfl, rfl, rfl⟩, ⟨rfl, rfl⟩,
    onPowerOnReset_port osel tsel s, rfl, rfl⟩
  · rw [onPowerOnReset_pane, ownerFor_eq]
    rfl
  · rw [onPowerOnReset_pane, onPowerOnReset_shownPane]
    rfl

end Sys2Proof.Machine
end

section
/-! ### The working stack as its two groups (R32-R36) -/

namespace Sys2Proof.Machine

variable {s t : State}

/-! #### A stack in good order -/

/-- Both stacks and the pinned flags are all that the law of the stack asks about. -/
theorem State.StackLaw.congr (hs : s.StackLaw) (hstack : t.stack = s.stack)
    (hshown : t.shownStack = s.shownStack) (hpinned : ∀ q, t.isPinned q = s.isPinned q) :
    t.StackLaw := by
  obtain ⟨perm, shown, ahead⟩ := hs
  refine ⟨hstack ▸ perm, hshown ▸ shown, ?_⟩
  simpa only [hstack, hpinned] using ahead

/-- The stack holds every pane. -/
theorem State.StackLaw.mem (hs : s.StackLaw) (p : PaneId) : p ∈ s.stack := by
  have all : ∀ q : PaneId, q ∈ stackAtReset := by decide
  exact hs.1.mem_iff.mpr (all p)

/-- The stack holds no pane twice. -/
theorem State.StackLaw.nodup (hs : s.StackLaw) : s.stack.Nodup := by
  have once : stackAtReset.Nodup := by decide
  exact hs.1.nodup_iff.mpr once

/-- Beside any pane, the pinned panes stand ahead of the unpinned ones. -/
theorem State.StackLaw.pinned_ahead (hs : s.StackLaw) (p : PaneId) :
    (s.stackWithout p).Pairwise fun a b => s.isPinned b = true → s.isPinned a = true := by
  obtain ⟨-, -, ahead⟩ := hs
  exact ahead.sublist List.erase_sublist

/-- The stack without a pane is the others in their order. -/
theorem State.StackLaw.stackWithout_eq (hs : s.StackLaw) (p : PaneId) :
    s.stackWithout p = s.stack.filter fun q => q ≠ p := by
  rw [State.stackWithout, hs.nodup.erase_eq_filter]
  exact List.filter_congr fun q _ => by simp [bne, decide_not, beq_eq_decide]

/-- A list whose elements with a property stand ahead of the others is these, then those. -/
theorem takeWhile_dropWhile_of_pairwise {α : Type} (f : α → Bool) {l : List α}
    (h : l.Pairwise fun a b => f b = true → f a = true) :
    l.takeWhile f = l.filter f ∧ l.dropWhile f = l.filter fun a => !f a := by
  induction l with
  | nil => exact ⟨rfl, rfl⟩
  | cons a l ih =>
    obtain ⟨first, rest⟩ := List.pairwise_cons.mp h
    obtain ⟨take, drop⟩ := ih rest
    cases ha : f a with
    | true => simp [ha, take, drop]
    | false =>
      have unmet : ∀ b ∈ l, f b = false := fun b hb =>
        Bool.eq_false_iff.mpr fun hfb => by simp [first b hb hfb] at ha
      have all : (l.filter fun b => !f b) = l := List.filter_eq_self.mpr (by simpa using unmet)
      simpa [ha, all] using unmet

/-- The pinned panes beside `p` stand ahead of the unpinned ones, so the boundary parts the two groups. -/
theorem State.StackLaw.groups (hs : s.StackLaw) (p : PaneId) :
    (s.stackWithout p).takeWhile s.isPinned = s.pinnedOthers p ∧
      (s.stackWithout p).dropWhile s.isPinned = s.unpinnedOthers p := by
  obtain ⟨take, drop⟩ := takeWhile_dropWhile_of_pairwise s.isPinned (hs.pinned_ahead p)
  rw [take, drop, hs.stackWithout_eq p, List.filter_filter, List.filter_filter]
  constructor <;> exact List.filter_congr fun q _ => Bool.and_comm _ _

/-- The other panes are the pinned ones, then the unpinned ones. -/
theorem State.StackLaw.stackWithout_groups (hs : s.StackLaw) (p : PaneId) :
    s.stackWithout p = s.pinnedOthers p ++ s.unpinnedOthers p := by
  obtain ⟨take, drop⟩ := hs.groups p
  rw [← take, ← drop, List.takeWhile_append_dropWhile]

/-- The boundary place is behind the pinned panes and ahead of the unpinned ones (R36). -/
theorem State.StackLaw.atBoundary_eq (hs : s.StackLaw) (p : PaneId) :
    s.atBoundary p = s.pinnedOthers p ++ p :: s.unpinnedOthers p := by
  obtain ⟨take, drop⟩ := hs.groups p
  rw [State.atBoundary, take, drop]

theorem State.isPinned_of_mem_pinnedOthers {p q : PaneId} (h : q ∈ s.pinnedOthers p) :
    s.isPinned q = true := by
  simp only [State.pinnedOthers, List.mem_filter, Bool.and_eq_true] at h
  obtain ⟨-, -, pinned⟩ := h
  exact pinned

theorem State.isPinned_of_mem_unpinnedOthers {p q : PaneId} (h : q ∈ s.unpinnedOthers p) :
    s.isPinned q = false := by
  simp only [State.unpinnedOthers, List.mem_filter, Bool.and_eq_true, Bool.not_eq_true'] at h
  obtain ⟨-, -, unpinned⟩ := h
  exact unpinned

/-- Behind another pane of its group: the order the others keep, with the pane put in (R36). -/
theorem State.StackLaw.putBehind_split (hs : s.StackLaw) {p q : PaneId} (hne : p ≠ q)
    (hsame : s.isPinned p = s.isPinned q) :
    ∃ front back, s.stackWithout p = front ++ q :: back ∧
      s.putBehind p q = front ++ q :: p :: back := by
  have mem : q ∈ s.stackWithout p := (List.mem_erase_of_ne hne.symm).mpr (hs.mem q)
  have nodup : (s.stackWithout p).Nodup := hs.nodup.erase p
  obtain ⟨front, back, split⟩ := List.append_of_mem mem
  refine ⟨front, back, split, ?_⟩
  rw [split, List.nodup_append] at nodup
  obtain ⟨-, -, apart⟩ := nodup
  have first : q ∉ front := fun hq => apart q hq q List.mem_cons_self rfl
  rw [State.putBehind, if_neg hne, if_pos hsame, split, insertBehind_append p q front back first]

/-! #### One pane put in another place -/

/-- A pane put anywhere among the others, its pinned flag set or not, leaves the stack in order when no
unpinned pane stands ahead of a pinned one. -/
theorem State.StackLaw.place (hs : s.StackLaw) {p : PaneId} {front back : List PaneId}
    (hothers : s.stackWithout p = front ++ back) (hstack : t.stack = front ++ p :: back)
    (hshown : t.shownStack = s.shownStack) (hpinned : ∀ q, q ≠ p → t.isPinned q = s.isPinned q)
    (ahead : t.isPinned p = true → ∀ q ∈ front, s.isPinned q = true)
    (behind : t.isPinned p = false → ∀ q ∈ back, s.isPinned q = false) : t.StackLaw := by
  have others : ∀ q ∈ front ++ back, t.isPinned q = s.isPinned q := fun q hq =>
    hpinned q (hs.nodup.mem_erase_iff.mp (hothers ▸ hq : q ∈ s.stackWithout p)).1
  have kept : (front ++ back).Pairwise fun a b => t.isPinned b = true → t.isPinned a = true :=
    (hothers ▸ hs.pinned_ahead p).imp_of_mem fun {a b} ha hb h => by
      rwa [others a ha, others b hb]
  obtain ⟨hfront, hback, hcross⟩ := List.pairwise_append.mp kept
  have perm : (front ++ back).Perm (s.stack.erase p) := .of_eq hothers.symm
  refine ⟨?_, hshown ▸ hs.2.1, ?_⟩
  · calc t.stack = front ++ p :: back := hstack
      List.Perm _ (p :: (front ++ back)) := List.perm_middle
      List.Perm _ (p :: s.stack.erase p) := perm.cons p
      List.Perm _ s.stack := (List.perm_cons_erase (hs.mem p)).symm
      List.Perm _ stackAtReset := hs.1
  · rw [hstack, List.pairwise_append]
    refine ⟨hfront, List.pairwise_cons.mpr ⟨fun q hq hpin => ?_, hback⟩, fun a ha b hb hpin => ?_⟩
    · by_contra hnot
      rw [others q (List.mem_append_right _ hq), behind (by simpa using hnot) q hq] at hpin
      simp at hpin
    · rcases List.mem_cons.mp hb with rfl | hb
      · rw [others a (List.mem_append_left _ ha)]
        exact ahead hpin a ha
      · exact hcross a ha b hb hpin

/-- A pane at the boundary of the groups is in order, pinned or not (R34-R36). -/
theorem State.StackLaw.boundary (hs : s.StackLaw) {p : PaneId} (hstack : t.stack = s.atBoundary p)
    (hshown : t.shownStack = s.shownStack) (hpinned : ∀ q, q ≠ p → t.isPinned q = s.isPinned q) :
    t.StackLaw :=
  hs.place (hs.stackWithout_groups p) (hstack.trans (hs.atBoundary_eq p)) hshown hpinned
    (fun _ _ => State.isPinned_of_mem_pinnedOthers) fun _ _ => State.isPinned_of_mem_unpinnedOthers

/-- An unpinned pane at the back of the stack is in order. -/
theorem State.StackLaw.back (hs : s.StackLaw) {p : PaneId} (hstack : t.stack = s.stackWithout p ++ [p])
    (hshown : t.shownStack = s.shownStack) (hpinned : ∀ q, q ≠ p → t.isPinned q = s.isPinned q)
    (hp : t.isPinned p = false) : t.StackLaw :=
  hs.place (List.append_nil _).symm hstack hshown hpinned (by simp [hp]) (by simp)

/-- RAISE keeps the stack in order (R34). -/
theorem State.StackLaw.raised (hs : s.StackLaw) {p : PaneId} (hstack : t.stack = s.raised p)
    (hshown : t.shownStack = s.shownStack) (hpinned : ∀ q, t.isPinned q = s.isPinned q) :
    t.StackLaw := by
  unfold State.raised at hstack
  split at hstack
  · rename_i hp
    exact hs.place (List.nil_append _).symm hstack hshown (fun q _ => hpinned q) (by simp)
      (by simp [hpinned, hp])
  · exact hs.boundary hstack hshown fun q _ => hpinned q

/-- LOWER keeps the stack in order (R35). -/
theorem State.StackLaw.lowered (hs : s.StackLaw) {p : PaneId} (hstack : t.stack = s.lowered p)
    (hshown : t.shownStack = s.shownStack) (hpinned : ∀ q, t.isPinned q = s.isPinned q) :
    t.StackLaw := by
  unfold State.lowered at hstack
  split at hstack
  · exact hs.boundary hstack hshown fun q _ => hpinned q
  · rename_i hp
    exact hs.back hstack hshown (fun q _ => hpinned q) (by simpa [hpinned] using hp)

/-- BEHIND keeps the stack in order (R36). -/
theorem State.StackLaw.putBehind (hs : s.StackLaw) {p q : PaneId} (hstack : t.stack = s.putBehind p q)
    (hshown : t.shownStack = s.shownStack) (hpinned : ∀ r, t.isPinned r = s.isPinned r) :
    t.StackLaw := by
  by_cases hpq : p = q
  · rw [State.putBehind, if_pos hpq] at hstack
    exact hs.congr hstack hshown hpinned
  · by_cases hsame : s.isPinned p = s.isPinned q
    · obtain ⟨front, back, split, order⟩ := hs.putBehind_split hpq hsame
      have others : s.stackWithout p = (front ++ [q]) ++ back := by simp [split]
      have ahead : ((front ++ [q]) ++ back).Pairwise fun a b =>
          s.isPinned b = true → s.isPinned a = true :=
        others ▸ hs.pinned_ahead p
      obtain ⟨hfront, -, hcross⟩ := List.pairwise_append.mp ahead
      obtain ⟨-, -, hlast⟩ := List.pairwise_append.mp hfront
      refine hs.place others (by simp [hstack, order]) hshown (fun r _ => hpinned r) ?_ ?_
      · intro hp r hr
        rw [hpinned, hsame] at hp
        rcases List.mem_append.mp hr with hr | hr
        · exact hlast r hr q (by simp) hp
        · exact List.mem_singleton.mp hr ▸ hp
      · intro hp r hr
        rw [hpinned, hsame] at hp
        exact Bool.eq_false_iff.mpr fun hpin => by simp [hcross q (by simp) r hr hpin] at hp
    · rw [State.putBehind, if_neg hpq, if_neg hsame] at hstack
      exact hs.boundary hstack hshown fun r _ => hpinned r

end Sys2Proof.Machine
end

section
/-! ### What a command's first event leaves of the panes and the stack (R19-R36) -/

namespace Sys2Proof.Machine

variable {s t : State}

/-! #### Regions -/

/-- What two pane records owe each other: defined and of different owners, their regions share no cell
(R19). -/
def Pane.Apart (r q : Pane) : Prop :=
  r.defined = true → q.defined = true → r.owner ≠ none → q.owner ≠ none → r.owner ≠ q.owner →
    r.view.meets q.view = false

/-- A record that is defined or owned only as the old one was, over the old region, pinned as before. -/
structure Pane.Within (r old : Pane) : Prop where
  defined : r.defined = true → old.defined = true
  owner : r.owner = none ∨ r.owner = old.owner
  base : r.view.base = old.view.base
  regionEnd : r.view.regionEnd = old.view.regionEnd
  pinned : r.pinned = old.pinned

theorem Pane.Within.refl (r : Pane) : r.Within r := ⟨id, .inr rfl, rfl, rfl, rfl⟩

/-- Two records that give something up owe each other nothing more. -/
theorem Pane.Apart.within {r q r' q' : Pane} (h : r.Apart q) (hr : r'.Within r) (hq : q'.Within q) :
    r'.Apart q' := by
  intro rdef qdef rown qown hne
  have rsame := hr.owner.resolve_left rown
  have qsame := hq.owner.resolve_left qown
  rw [rsame] at rown hne
  rw [qsame] at qown hne
  have apart := h (hr.defined rdef) (hq.defined qdef) rown qown hne
  rwa [PaneView.meets, hr.base, hr.regionEnd, hq.base, hq.regionEnd]

/-- Whether two regions meet is the same from either side. -/
theorem PaneView.meets_comm (v w : PaneView) : v.meets w = w.meets v := Bool.and_comm _ _

theorem Pane.Apart.symm {r q : Pane} (h : r.Apart q) : q.Apart r := fun qdef rdef qown rown hne => by
  rw [PaneView.meets_comm]
  exact h rdef qdef rown qown hne.symm

/-- The law stays where no pane gets more than it had. -/
theorem State.RegionLaw.within (hs : s.RegionLaw) (h : ∀ p, (t.pane p).Within (s.pane p)) :
    t.RegionLaw := fun p q => Pane.Apart.within (hs p q) (h p) (h q)

/-- A region that passes the overlap check of a port is apart from every pane (R19). -/
theorem State.apart_of_not_overlaps {x : Port} {r : Pane} (hx : r.owner = some x)
    (h : s.overlaps x r.view = false) (q : PaneId) : r.Apart (s.pane q) := by
  intro _ qdef _ qown hne
  have checks : ∀ q : PaneId, (s.pane q).defined = true → (s.pane q).owner.isSome = true →
      (s.pane q).owner ≠ some x → r.view.meets (s.pane q).view = false := by
    simpa [State.overlaps] using h
  exact checks q qdef (Option.isSome_iff_ne_none.mpr qown) (hx ▸ hne.symm)

/-- A record apart from every pane may take the place of any of them. -/
theorem State.RegionLaw.setPane (hs : s.RegionLaw) {p : PaneId} {r : Pane}
    (h : ∀ q, r.Apart (s.pane q)) : (s.setPane p r).RegionLaw := by
  intro a b
  show ((s.setPane p r).pane a).Apart ((s.setPane p r).pane b)
  by_cases ha : a = p <;> by_cases hb : b = p
  · subst ha hb
    exact fun _ _ _ _ hne => absurd rfl hne
  · subst ha
    rw [State.pane_setPane_same, State.pane_setPane_other s r hb]
    exact h b
  · subst hb
    rw [State.pane_setPane_same, State.pane_setPane_other s r ha]
    exact (h a).symm
  · rw [State.pane_setPane_other s r ha, State.pane_setPane_other s r hb]
    exact hs a b

/-- The law is about the working panes alone. -/
theorem State.RegionLaw.congr (hs : s.RegionLaw) (h : t.panes = s.panes) : t.RegionLaw := by
  have pane : ∀ p, t.pane p = s.pane p := fun p => by unfold State.pane; rw [h]
  simpa only [State.RegionLaw, pane] using hs

/-! #### The first event of a command -/

/-- What the first event of a command of port `x` may leave of the panes and of the stack: no pane with
more than it had; a record of `x` that passed the overlap check, at the boundary when it changes pinned;
an UNDEFINED pane at the back; or another order alone. -/
inductive Arranges (s : State) (x : Port) (t : State) : Prop
  | kept (shown : t.shownStack = s.shownStack) (panes : ∀ q, (t.pane q).Within (s.pane q))
      (stack : t.stack = s.stack)
  | taken (shown : t.shownStack = s.shownStack) (p : PaneId) (r : Pane)
      (panes : t.panes = (s.setPane p r).panes)
      (owner : r.owner = some x) (clear : r.defined = true → s.overlaps x r.view = false)
      (stack : t.stack = if r.pinned = s.isPinned p then s.stack else s.atBoundary p)
  | dropped (shown : t.shownStack = s.shownStack) (p : PaneId) (r : Pane)
      (panes : t.panes = (s.setPane p r).panes)
      (undefined : r.defined = false) (unpinned : r.pinned = false)
      (stack : t.stack = s.stackWithout p ++ [p])
  | raised (shown : t.shownStack = s.shownStack) (p : PaneId) (panes : t.panes = s.panes)
      (stack : t.stack = s.raised p)
  | lowered (shown : t.shownStack = s.shownStack) (p : PaneId) (panes : t.panes = s.panes)
      (stack : t.stack = s.lowered p)
  | putBehind (shown : t.shownStack = s.shownStack) (p q : PaneId) (panes : t.panes = s.panes)
      (stack : t.stack = s.putBehind p q)

namespace Arranges

variable {x : Port}

/-- Panes and stack as they are. -/
theorem same (shown : t.shownStack = s.shownStack) (panes : t.panes = s.panes)
    (stack : t.stack = s.stack) : Arranges s x t :=
  .kept shown (fun q => by
    have pane : t.pane q = s.pane q := by unfold State.pane; rw [panes]
    exact pane ▸ Pane.Within.refl _) stack

/-- One pane's record replaced by one with no more than it had. -/
theorem setPane {p : PaneId} {r : Pane} (shown : t.shownStack = s.shownStack)
    (panes : t.panes = (s.setPane p r).panes)
    (within : r.Within (s.pane p)) (stack : t.stack = s.stack) : Arranges s x t :=
  .kept shown (fun q => by
    have pane : t.pane q = (s.setPane p r).pane q := by unfold State.pane; rw [panes]
    rw [pane]
    by_cases hq : q = p
    · subst hq
      rwa [State.pane_setPane_same]
    · rw [State.pane_setPane_other s r hq]
      exact Pane.Within.refl _) stack

variable (p : PaneId)

theorem engineDefine (g : Geometry) : Arranges s x (engineDefine x p g s) := by
  unfold Machine.engineDefine
  split
  · exact same rfl rfl rfl
  · rename_i howns
    split
    · exact same rfl rfl rfl
    · split
      · exact same rfl rfl rfl
      · rename_i hclear
        exact .taken rfl p (Geometry.record g (s.pane p)) rfl
          (by simpa [State.owns] using howns : (s.pane p).owner = some x)
          (fun _ => Bool.eq_false_iff.mpr hclear) rfl

theorem engineShow : Arranges s x (engineShow x p s) := by
  unfold Machine.engineShow
  split
  · exact same rfl rfl rfl
  · split
    · exact same rfl rfl rfl
    · rename_i hd
      exact setPane rfl rfl ⟨fun _ => by simpa using hd, .inr rfl, rfl, rfl, rfl⟩ rfl

theorem engineHide : Arranges s x (engineHide x p s) := by
  unfold Machine.engineHide
  split
  · exact same rfl rfl rfl
  · split
    · exact same rfl rfl rfl
    · rename_i hd
      exact setPane rfl rfl ⟨fun _ => by simpa using hd, .inr rfl, rfl, rfl, rfl⟩ rfl

theorem engineDrop : Arranges s x (engineDrop x p s) := by
  unfold Machine.engineDrop
  split
  · exact same rfl rfl rfl
  · exact .dropped rfl p _ rfl (by simp [Pane.defined]) rfl rfl

/-- A CLAIM that takes a pane has made the overlap check of its region, if it has one (R26). -/
theorem engineClaim : Arranges s x (engineClaim x p s) := by
  unfold Machine.engineClaim
  split
  · split <;> exact same rfl rfl rfl
  · split
    · exact same rfl rfl rfl
    · split
      · exact same rfl rfl rfl
      · rename_i hclear
        exact .taken rfl p { s.pane p with owner := some x, hold := none } rfl rfl
          (fun hd => by simpa [show (s.pane p).defined = true from hd] using hclear)
          (if_pos rfl).symm

theorem engineRelease : Arranges s x (engineRelease x p s) := by
  have within : ((s.pane p).released x).Within (s.pane p) := ⟨id, .inl rfl, rfl, rfl, rfl⟩
  unfold Machine.engineRelease
  split
  · exact same rfl rfl rfl
  · dsimp only
    split <;> exact setPane rfl rfl within rfl

theorem engineSetTop (top fine : Nat) : Arranges s x (engineSetTop x p top fine s) := by
  simp only [Machine.engineSetTop]
  repeat' split
  case isFalse.isFalse.isFalse.isFalse => exact setPane rfl rfl ⟨id, .inr rfl, rfl, rfl, rfl⟩ rfl
  all_goals exact same rfl rfl rfl

/-- A top line moved keeps the record's region, owner and state (R49). -/
theorem advanced (c : Nat) : Arranges s x (s.setView p ((s.pane p).view.advanced c)) := by
  rw [PaneView.advanced_eq]
  exact setPane rfl rfl ⟨id, .inr rfl, rfl, rfl, rfl⟩ rfl

theorem takeFlight (cut : Bool) (todo : List Micro) : Arranges s x (s.takeFlight x cut todo) :=
  same (by simp [State.takeFlight]) (by simp) (by simp [State.takeFlight])

theorem beginRoll (k : Int) (clear : Bool) : Arranges s x (beginRoll x p k clear s) := by
  simp only [Machine.beginRoll]
  repeat' split
  all_goals first
    | exact advanced p _
    | exact takeFlight _ _
    | exact same rfl rfl rfl

/-- The first event of a command rearranges the panes and the stack as its rule in spec 02 says. -/
theorem startCommand (c : Command) : Arranges s x (startCommand x c s) := by
  cases c <;> simp only [Machine.startCommand]
  case define p g => exact engineDefine p g
  case showPane p => exact engineShow p
  case hidePane p => exact engineHide p
  case dropPane p => exact engineDrop p
  case claim p => exact engineClaim p
  case release p => exact engineRelease p
  case raise p =>
    unfold engineRaise
    split
    · exact same rfl rfl rfl
    · exact .raised rfl p rfl rfl
  case lower p =>
    unfold engineLower
    split
    · exact same rfl rfl rfl
    · exact .lowered rfl p rfl rfl
  case behind p q =>
    unfold engineBehind
    split
    · exact same rfl rfl rfl
    · exact .putBehind rfl p q rfl rfl
  case setTop p top fine => exact engineSetTop p top fine
  case roll p k clear => exact beginRoll p k clear
  all_goals
    simp only [beginLog, beginPlace, beginSweep, beginShift, beginTint, beginTick, beginReadCells,
      engineWait, engineGlyph, enginePatch, enginePatchRows, enginePatchCode, engineUnpatch,
      engineReadGlyph, enginePalette, engineRamp, engineStaleColour, engineBlink, engineCursor,
      engineTiming, engineLock]
  all_goals repeat' split
  all_goals first
    | exact takeFlight _ _
    | exact same rfl rfl rfl

/-- Every arrangement keeps regions of different owners apart (R19). -/
theorem regionLaw (h : Arranges s x t) (hs : s.RegionLaw) : t.RegionLaw := by
  cases h with
  | kept shown panes stack => exact hs.within panes
  | taken shown p r panes owner clear stack =>
    refine State.RegionLaw.congr (hs.setPane (p := p) (r := r) fun q => ?_) panes
    intro rdef
    exact State.apart_of_not_overlaps owner (clear rdef) q rdef
  | dropped shown p r panes undefined unpinned stack =>
    exact State.RegionLaw.congr
      (hs.setPane (p := p) (r := r) fun q rdef => by simp [undefined] at rdef) panes
  | raised shown p panes stack | lowered shown p panes stack | putBehind shown p q panes stack =>
    exact hs.congr panes

/-- Every arrangement keeps the stack in order (R32). -/
theorem stackLaw (h : Arranges s x t) (hs : s.StackLaw) : t.StackLaw := by
  have flags : t.panes = s.panes → ∀ q, t.isPinned q = s.isPinned q := fun panes q => by
    simp only [State.isPinned, State.pane, panes]
  have replaced : ∀ {p : PaneId} {r : Pane}, t.panes = (s.setPane p r).panes →
      t.isPinned p = r.pinned ∧ ∀ q, q ≠ p → t.isPinned q = s.isPinned q := fun {p r} panes => by
    have pane : ∀ q, t.pane q = (s.setPane p r).pane q := fun q => by unfold State.pane; rw [panes]
    refine ⟨by rw [State.isPinned, pane, State.pane_setPane_same], fun q hq => ?_⟩
    rw [State.isPinned, pane, State.pane_setPane_other s r hq, State.isPinned]
  cases h with
  | kept shown panes stack => exact hs.congr stack shown fun q => (panes q).pinned
  | taken shown p r panes owner clear stack =>
    obtain ⟨hp, hothers⟩ := replaced panes
    split at stack
    · rename_i hsame
      refine hs.congr stack shown fun q => ?_
      by_cases hq : q = p
      · rw [hq, hp, hsame]
      · exact hothers q hq
    · exact hs.boundary stack shown hothers
  | dropped shown p r panes undefined unpinned stack =>
    obtain ⟨hp, hothers⟩ := replaced panes
    exact hs.back stack shown hothers (hp.trans unpinned)
  | raised shown p panes stack => exact hs.raised stack shown (flags panes)
  | lowered shown p panes stack => exact hs.lowered stack shown (flags panes)
  | putBehind shown p q panes stack => exact hs.putBehind stack shown (flags panes)

end Arranges

end Sys2Proof.Machine
end

section
/-! ### Regions and both stacks are kept by every step (R19, R32) -/

namespace Sys2Proof.Machine

/-! #### Steps of the engine and the port reset -/

/-- A step of the command in flight moves at most its pane's top line, and leaves the stack (R39). -/
theorem Micro.effect_arranges (f : Flight) (m : Micro) (x : Port) (s : State) :
    Arranges s x (m.effect f s) := by
  cases m <;> simp only [Micro.effect]
  case advance c => exact .advanced f.pane c
  case put | store | arrow | markEvent => split <;> exact .same rfl rfl rfl
  case discard => exact .same (by simp) (by simp) (by simp)
  case load | readOld | tint | read | clearCell | text | putCode | readBitmap | refuse =>
    exact .same rfl rfl rfl

/-- The stop of a port's command ends it, after the write that a SHIFT owes, if it owes one (R108). -/
theorem State.abortFlight_cases (s : State) (x : Port) :
    s.abortFlight x = s ∨ s.abortFlight x = { s with flight := none } ∨
      ∃ f m, s.abortFlight x = { Micro.effect f m s with flight := none } := by
  unfold State.abortFlight
  split
  · exact .inl rfl
  · rename_i f _
    split
    · exact .inl rfl
    · split
      · split
        · exact .inr (.inr ⟨f, _, rfl⟩)
        · exact .inr (.inl rfl)
      · exact .inr (.inl rfl)

theorem State.dropCursor_arranges (s : State) (x : Port) : Arranges s x (s.dropCursor x) := by
  unfold State.dropCursor
  split <;> exact .same rfl rfl rfl

/-- A port that gives up all its panes leaves no pane with more than it had (R30). -/
theorem State.releaseAll_arranges (s : State) (x : Port) : Arranges s x (s.releaseAll x) := by
  refine .kept rfl (fun q => ?_) rfl
  simp only [State.pane, State.releaseAll, Fin.getElem_fin, Vector.getElem_map]
  split
  · exact ⟨id, .inl rfl, rfl, rfl, rfl⟩
  · exact .refl _

/-! #### The frame start and power-on reset -/

/-- A frame start clears every hold, and takes the displayed stack from the working one (R17, R33). -/
theorem State.frameStart_order (s : State) (o : LatchOrder) :
    (∀ q, (s.frameStart o).pane q = { s.pane q with hold := none }) ∧
      (s.frameStart o).stack = s.stack ∧ (s.frameStart o).shownStack = s.stack := by
  obtain ⟨-, -, panes, -⟩ := s.frameStart_stores o
  refine ⟨fun q => by simp [State.pane, panes, State.latchPanes], ?_⟩
  cases o <;>
    simp only [State.frameStart, State.latchPanes, State.latchAndAge, State.latchColours,
      State.ageMarks, State.latchCursor, State.blinkFrame, State.clearWaiting, State.latchTiming,
      State.countFrame, and_self]

theorem State.RegionLaw.frameStart {s : State} (hs : s.RegionLaw) (o : LatchOrder) :
    (s.frameStart o).RegionLaw := by
  obtain ⟨pane, -, -⟩ := s.frameStart_order o
  exact hs.within fun q => pane q ▸ ⟨id, .inr rfl, rfl, rfl, rfl⟩

theorem State.StackLaw.frameStart {s : State} (hs : s.StackLaw) (o : LatchOrder) :
    (s.frameStart o).StackLaw := by
  obtain ⟨pane, stack, shown⟩ := s.frameStart_order o
  obtain ⟨perm, -, ahead⟩ := hs
  refine ⟨stack ▸ perm, shown ▸ perm, ?_⟩
  simpa only [stack, State.isPinned, pane] using ahead

/-- Power-on reset leaves no pane a region (R16). -/
theorem onPowerOnReset_regionLaw (osel tsel : Fin 4) (s : State) :
    (onPowerOnReset osel tsel s).RegionLaw := by
  intro p q hp
  rw [onPowerOnReset_pane] at hp
  simp [Pane.atReset, Pane.defined, PaneView.atReset] at hp

/-- Power-on reset leaves both stacks in the order of the pane numbers and no pane pinned (R16, R32). -/
theorem onPowerOnReset_stackLaw (osel tsel : Fin 4) (s : State) :
    (onPowerOnReset osel tsel s).StackLaw := by
  have unpinned : ∀ q, (onPowerOnReset osel tsel s).isPinned q = false := fun q => by
    rw [State.isPinned, onPowerOnReset_pane]
    rfl
  exact ⟨.refl _, .refl _, List.pairwise_of_forall fun _ b hb => by simp [unpinned b] at hb⟩

/-! #### The two laws -/

/-- A law that every arrangement of the panes and the stack keeps. -/
def KeptByArranging (P : State → Prop) : Prop := ∀ {s x t}, Arranges s x t → P s → P t

namespace KeptByArranging

variable {P : State → Prop} (law : KeptByArranging P) {s t : State}

include law

/-- Such a law stays where the panes and both stacks stay. -/
theorem same (hs : P s) (shown : t.shownStack = s.shownStack) (panes : t.panes = s.panes)
    (stack : t.stack = s.stack) : P t := law (x := .a) (.same shown panes stack) hs

theorem grantTo (hs : P s) (x : Port) : P (grantTo x s) := by
  rcases grantTo_cases x s with ⟨-, e⟩ | ⟨w, rest, -, ⟨-, e⟩ | ⟨c, -, e⟩⟩ <;> rw [e]
  · exact hs
  · exact law.same hs rfl rfl rfl
  · have granted : P (s.granted x w rest c) := law.same hs rfl rfl rfl
    have started : P (startCommand x c (s.granted x w rest c)) := law (.startCommand c) granted
    unfold beginCommand
    rcases State.completeIfDone_cases (startCommand x c (s.granted x w rest c)) x with h | h <;> rw [h]
    · exact started
    · exact law.same started rfl rfl rfl

theorem effect (hs : P s) (f : Flight) (m : Micro) : P (m.effect f s) :=
  law (m.effect_arranges f f.port s) hs

theorem engineStep (hs : P s) (h : engineStep s = .next t) : P t := by
  rcases engineStep_next h with ⟨-, rfl⟩ | ⟨f, -, -, rfl⟩ | ⟨f, m, rest, -, -, -, rfl⟩
  · exact hs
  · exact law.same hs rfl rfl rfl
  · have done := law.effect hs f m
    simp only [State.stepDone]
    split <;> exact law.same done rfl rfl rfl

theorem portReset (hs : P s) (x : Port) : P (((s.abortFlight x).dropCursor x).releaseAll x) := by
  have stopped : P (s.abortFlight x) := by
    rcases s.abortFlight_cases x with e | e | ⟨f, m, e⟩ <;> rw [e]
    · exact hs
    · exact law.same hs rfl rfl rfl
    · exact law.same (law.effect hs f m) rfl rfl rfl
  have dropped : P ((s.abortFlight x).dropCursor x) :=
    law ((s.abortFlight x).dropCursor_arranges x) stopped
  exact law (State.releaseAll_arranges _ x) dropped

/-- When power-on reset and the frame start keep it too, it is a law of the stores. -/
theorem storeLaw (powerOn : ∀ osel tsel s, P (onPowerOnReset osel tsel s))
    (frame : ∀ o s, P s → P (s.frameStart o)) : StoreLaw P where
  lines := fun _ _ _ _ _ _ hs => law.same hs rfl rfl rfl
  grant := fun _ x hs _ => law.grantTo hs x
  engine := fun _ _ hs h => law.engineStep hs h
  powerOn := fun osel tsel s _ => powerOn osel tsel s
  endFlight := fun _ hs => law.same hs rfl rfl rfl
  clearPlane := fun _ hs => law.same hs rfl rfl rfl
  frame := frame
  portReset := fun x _ hs => law.portReset hs x

end KeptByArranging

theorem regionLaw_storeLaw : StoreLaw State.RegionLaw :=
  KeptByArranging.storeLaw Arranges.regionLaw onPowerOnReset_regionLaw fun o _ hs => hs.frameStart o

theorem stackLaw_storeLaw : StoreLaw State.StackLaw :=
  KeptByArranging.storeLaw Arranges.stackLaw onPowerOnReset_stackLaw fun o _ hs => hs.frameStart o

/-- Settles O55: every arrangement of the panes and the stack keeps each law, so both are laws of the
stores. -/
theorem stepKeepsRegionsAndStack : Obligations.StepKeepsRegionsAndStack :=
  ⟨fun _ _ hs h => regionLaw_storeLaw.step hs h, fun _ _ hs h => stackLaw_storeLaw.step hs h⟩

end Sys2Proof.Machine
end

section
/-! ### A command of one event carried out at once (R87, R92) -/

namespace Sys2Proof.Machine

variable {s t : State} {i : Instr} {x : Port} {c : Command}

/-- The row of a command that has its whole effect in the event of its grant, on a port served at once. -/
theorem exec_of_one_event (hi : i.command = some (x, c)) (hc : c.WellFormed = true)
    (hfree : s.freeFor x c = true) (hneed : replyNeed (some c) = 0)
    (hstart : startCommand x c (s.grantedNow x c) = { t with flight := (s.grantedNow x c).flight })
    (hports : t.ports = (s.delivered x c).ports) (hidle : t.flight = s.flight) :
    exec i s = .next t := by
  have idle : t.flight = none := hidle.trans (State.servedAtOnce hfree).idle
  have unreserved : (t.port x).reserved = 0 := by
    rw [State.port, hports]
    exact (State.delivered_setClip_reserved s x c false).trans hneed
  rw [exec_of_freeFor hi hc hfree, State.begun_eq, beginCommand, hstart,
    State.completeIfDone_nil x rfl rfl, finishFlight_none rfl]
  exact congrArg _ (State.complete_idle idle unreserved)

/-- The row of a command that fails a check, on a port served at once, records the refusal. -/
theorem exec_of_refusal {code : RefusalCode} (hi : i.command = some (x, c))
    (hc : c.WellFormed = true) (hfree : s.freeFor x c = true)
    (hstart : startCommand x c (s.grantedNow x c) = (s.grantedNow x c).refusing code) :
    exec i s = .next (s.refusedWith x c code) := by
  have last : engineStep ((s.grantedNow x c).refusing code) =
      .next (((s.grantedNow x c).refusing code).stepDone
        ⟨x, encodeCommand c, Command.named c, [.refuse code], none, []⟩ (.refuse code) []) :=
    engineStep_cons rfl rfl (by simp [Micro.address])
  have idle : s.delivered x c = { s.delivered x c with flight := none } := by
    rw [← (State.servedAtOnce hfree).idle]
    rfl
  rw [exec_of_freeFor hi hc hfree, State.begun_eq, beginCommand, hstart,
    State.completeIfDone_cons x rfl rfl]
  calc finishFlight ((s.grantedNow x c).refusing code)
      = engineSteps 1 ((s.grantedNow x c).refusing code) := rfl
    _ = .next ((Micro.effect ⟨x, encodeCommand c, Command.named c, [.refuse code], none, []⟩
          (.refuse code) ((s.grantedNow x c).refusing code)).complete x) := by
        simp only [engineSteps, last, State.stepDone_last]
    _ = .next (s.refusedWith x c code) := by
        rw [State.refusedWith, idle]
        rfl

end Sys2Proof.Machine
end

section
/-! ### DEFINE, SHOW, HIDE and DROP (R20-R25) -/

namespace Sys2Proof.Machine

variable {s : State} {x : Port} {p : PaneId}

/-! #### The checks -/

/-- The range checks of DEFINE, as R20 lists them and as the engine makes them. -/
theorem Geometry.outOfRange_eq (g : Geometry) : Geometry.outOfRange g = !Geometry.allowed g := by
  rw [Bool.eq_iff_iff]
  simp only [Geometry.outOfRange, Geometry.allowed, Bool.or_eq_true, Bool.and_eq_true,
    Bool.not_eq_true', decide_eq_true_eq, Bool.and_eq_false_iff, decide_eq_false_iff_not,
    Bool.or_eq_false_iff, ne_eq]
  omega

/-- The overlap check of a port and a region (R19). -/
theorem State.overlaps_eq (s : State) (x : Port) (v : PaneView) :
    s.overlaps x v = s.meetsForeign x v.base v.regionEnd := by
  unfold State.overlaps State.meetsForeign
  refine congrArg (List.any _) (funext fun q => ?_)
  rw [Bool.eq_iff_iff]
  simp [Pane.defined, PaneView.meets, Option.isSome_iff_ne_none, and_assoc]

/-- What a DEFINE that passes its checks has: an owned pane, and a region that meets no other port's (R18,
R20, R21). -/
theorem State.define_passes {g : Geometry} (h : s.verdict x (.define p g) = none) :
    (s.pane p).owner = some x ∧ Geometry.outOfRange g = false ∧
      s.overlaps x (Geometry.view g (s.pane p).view) = false := by
  have checks : (s.pane p).owner = some x ∧ Geometry.allowed g = true ∧
      s.meetsForeign x g.base (g.base + g.pitch * g.ringLines) = false := by
    simpa [State.checks, Command.ownerPane] using State.checks_passed h
  obtain ⟨howner, hallowed, hclear⟩ := checks
  exact ⟨howner, by rw [Geometry.outOfRange_eq, hallowed]; rfl, (s.overlaps_eq x _).trans hclear⟩

/-- What a SHOW or a HIDE that passes its checks has: an owned, defined pane (R23, R24). -/
theorem State.show_passes (h : s.verdict x (.showPane p) = none) :
    (s.pane p).owner = some x ∧ (s.pane p).defined = true := by
  simpa [State.checks, Command.ownerPane, Pane.defined] using State.checks_passed h

theorem State.hide_passes (h : s.verdict x (.hidePane p) = none) :
    (s.pane p).owner = some x ∧ (s.pane p).defined = true := State.show_passes (p := p) h

/-- The ownership check of a port that owns the pane passes (R18). -/
theorem State.owns_of_owner (h : (s.pane p).owner = some x) : s.owns x p = true := decide_eq_true h

/-! #### What the commands that are taken do -/

theorem engineDefine_taken {g : Geometry} (howner : (s.pane p).owner = some x)
    (hrange : Geometry.outOfRange g = false)
    (hclear : s.overlaps x (Geometry.view g (s.pane p).view) = false) :
    engineDefine x p g s = { s.setPane p (Geometry.record g (s.pane p)) with
      stack := if g.pinned = s.isPinned p then s.stack else s.atBoundary p } := by
  simp [engineDefine, State.owns_of_owner howner, hrange, hclear]

theorem engineShow_taken (howner : (s.pane p).owner = some x) (hd : (s.pane p).defined = true) :
    engineShow x p s = s.setView p { (s.pane p).view with state := .shown, stale := false } := by
  simp [engineShow, State.owns_of_owner howner, hd]

theorem engineHide_taken (howner : (s.pane p).owner = some x) (hd : (s.pane p).defined = true) :
    engineHide x p s = s.setView p { (s.pane p).view with state := .hidden } := by
  simp [engineHide, State.owns_of_owner howner, hd]

theorem engineDrop_taken (howner : (s.pane p).owner = some x) :
    engineDrop x p s = { s.setPane p { s.pane p with
      view := { (s.pane p).view with state := .undefined }, pinned := false } with
        stack := s.stackWithout p ++ [p] } := by
  simp [engineDrop, State.owns_of_owner howner]

/-- A frame start brings a pane's working record to the screen (R17). -/
theorem State.shownPane_frameStart (s : State) (o : LatchOrder) (p : PaneId) :
    (s.frameStart o).shownPane p = (s.pane p).view := by
  obtain ⟨-, -, -, shown⟩ := s.frameStart_stores o
  simp [State.shownPane, State.pane, shown, State.latchPanes]

/-! #### The rows -/

/-- Settles O28: a DEFINE that passes its checks writes its record, and the boundary lies between the
groups. -/
theorem defineSetsTheRecord : Obligations.DefineSetsTheRecord := by
  intro s x p g hc hfree hv hs
  obtain ⟨howner, hrange, hclear⟩ := State.define_passes hv
  rw [← howner, ← hs.atBoundary_eq p]
  exact exec_of_one_event rfl hc hfree rfl (engineDefine_taken howner hrange hclear) rfl rfl

/-- Settles O29: each command that passes its checks has one event, and the next frame start copies the
record it leaves. -/
theorem showHideAndDrop : Obligations.ShowHideAndDrop := by
  refine ⟨fun s x p => ⟨fun hfree hv => ?_, fun hfree hv => ?_⟩, fun s x p hfree hs howner => ?_⟩
  · obtain ⟨howner, hd⟩ := State.show_passes hv
    refine ⟨_, ?_, rfl, fun o => by rw [State.shownPane_frameStart, State.pane_setPane_same]⟩
    exact exec_of_one_event rfl rfl hfree rfl (engineShow_taken howner hd) rfl rfl
  · obtain ⟨howner, hd⟩ := State.hide_passes hv
    refine ⟨_, ?_, rfl, fun o => by rw [State.shownPane_frameStart, State.pane_setPane_same]⟩
    exact exec_of_one_event rfl rfl hfree rfl (engineHide_taken howner hd) rfl rfl
  · rw [← hs.stackWithout_eq p]
    exact exec_of_one_event rfl rfl hfree rfl (engineDrop_taken howner) rfl rfl

end Sys2Proof.Machine
end

section
/-! ### CLAIM and RELEASE (R26, R27) -/

namespace Sys2Proof.Machine

variable {s : State} {x : Port} {p : PaneId}

/-! #### The outcomes of CLAIM, in R26's order -/

theorem engineClaim_owned (howner : (s.pane p).owner = some x) : engineClaim x p s = s := by
  simp [engineClaim, howner]

theorem engineClaim_foreign (hown : (s.pane p).owner ≠ some x) (hother : (s.pane p).owner ≠ none) :
    engineClaim x p s = s.refusing .busy := by
  obtain ⟨y, hy⟩ := Option.ne_none_iff_exists'.mp hother
  have hne : y ≠ x := fun h => hown (h ▸ hy)
  simp [engineClaim, hy, hne]

/-- The hold keeps every port but the releaser out (R26, R28). -/
theorem engineClaim_held (hnone : (s.pane p).owner = none)
    (hheld : (s.pane p).hold ≠ none ∧ (s.pane p).hold ≠ some x) :
    engineClaim x p s = s.refusing .busy := by
  simp [engineClaim, hnone, hheld, Option.isSome_iff_ne_none]

/-- No hold, or the port's own, lets a CLAIM go on. -/
theorem State.claim_unheld (hopen : ¬((s.pane p).hold ≠ none ∧ (s.pane p).hold ≠ some x)) :
    ((s.pane p).hold.isSome && !((s.pane p).hold = some x)) = false := by
  simpa [Bool.and_eq_false_iff, Option.isSome_iff_ne_none, or_iff_not_imp_left] using hopen

section Unowned

variable (hnone : (s.pane p).owner = none)
  (hopen : ¬((s.pane p).hold ≠ none ∧ (s.pane p).hold ≠ some x))

include hnone hopen

theorem engineClaim_meets (hmeets : (s.pane p).view.state ≠ .undefined ∧
    s.meetsForeign x (s.pane p).view.base (s.pane p).view.regionEnd = true) :
    engineClaim x p s = s.refusing .overlap := by
  simp [engineClaim, hnone, State.claim_unheld hopen, State.overlaps_eq, Pane.defined, hmeets]

/-- A pane without a region passes the overlap check (R26). -/
theorem engineClaim_taken (hclear : ¬((s.pane p).view.state ≠ .undefined ∧
    s.meetsForeign x (s.pane p).view.base (s.pane p).view.regionEnd = true)) :
    engineClaim x p s = s.setPane p { s.pane p with owner := some x, hold := none } := by
  simp [engineClaim, hnone, State.claim_unheld hopen, State.overlaps_eq, Pane.defined, hclear]

end Unowned

/-! #### RELEASE -/

theorem engineRelease_taken (howner : (s.pane p).owner = some x) :
    engineRelease x p s =
      if s.cursor.pane = p ∧ s.cursor.mode ≠ .off then
        (s.setPane p ((s.pane p).released x)).cursorOff
      else s.setPane p ((s.pane p).released x) := by
  simp [engineRelease, State.owns_of_owner howner]

/-- Settles O30: each outcome of CLAIM is a refusal or one event, and so is RELEASE by the owner. -/
theorem claimAndRelease : Obligations.ClaimAndRelease := by
  constructor
  · intro s x p hfree
    have taken := fun {t} h => exec_of_one_event (t := t) (i := .claim x p) rfl rfl hfree rfl h
    have refused := fun {code} h => exec_of_refusal (code := code) (i := .claim x p) rfl rfl hfree h
    split_ifs with hown hother hheld hmeets
    · exact taken (engineClaim_owned hown) rfl rfl
    · exact refused (engineClaim_foreign hown hother)
    · exact refused (engineClaim_held (not_not.mp hother) hheld)
    · exact refused (engineClaim_meets (not_not.mp hother) hheld hmeets)
    · exact taken (engineClaim_taken (not_not.mp hother) hheld hmeets) rfl rfl
  · rintro s t x p hfree howner rfl
    have start := engineRelease_taken (s := s.grantedNow x (.release p)) howner
    split_ifs with hcursor
    · exact exec_of_one_event rfl rfl hfree rfl (start.trans (if_pos hcursor)) rfl rfl
    · exact exec_of_one_event rfl rfl hfree rfl (start.trans (if_neg hcursor)) rfl rfl

end Sys2Proof.Machine
end

section
/-! ### RAISE, LOWER and BEHIND (R34-R36) -/

namespace Sys2Proof.Machine

variable {s : State} {x : Port} {p : PaneId}

theorem engineRaise_taken (howner : (s.pane p).owner = some x) :
    engineRaise x p s = { s with stack := s.raised p } := by
  simp [engineRaise, State.owns_of_owner howner]

theorem engineLower_taken (howner : (s.pane p).owner = some x) :
    engineLower x p s = { s with stack := s.lowered p } := by
  simp [engineLower, State.owns_of_owner howner]

theorem engineBehind_taken (q : PaneId) (howner : (s.pane p).owner = some x) :
    engineBehind x p q s = { s with stack := s.putBehind p q } := by
  simp [engineBehind, State.owns_of_owner howner]

/-- The front of its group, as the two groups give it (R34). -/
theorem State.StackLaw.raised_eq (hs : s.StackLaw) (p : PaneId) :
    s.raised p = if (s.pane p).pinned then p :: (s.pinnedOthers p ++ s.unpinnedOthers p)
      else s.pinnedOthers p ++ p :: s.unpinnedOthers p := by
  rw [← hs.stackWithout_groups p, ← hs.atBoundary_eq p]
  rfl

/-- The back of its group, as the two groups give it (R35). -/
theorem State.StackLaw.lowered_eq (hs : s.StackLaw) (p : PaneId) :
    s.lowered p = if (s.pane p).pinned then s.pinnedOthers p ++ p :: s.unpinnedOthers p
      else s.pinnedOthers p ++ s.unpinnedOthers p ++ [p] := by
  rw [← hs.stackWithout_groups p, ← hs.atBoundary_eq p]
  rfl

/-- Settles O31: the stack of RAISE and of LOWER, said by the two groups. -/
theorem raiseAndLowerMoveInTheGroup : Obligations.RaiseAndLowerMoveInTheGroup := by
  intro s x p hs howner
  rw [← hs.raised_eq p, ← hs.lowered_eq p]
  exact ⟨fun hfree => exec_of_one_event rfl rfl hfree rfl (engineRaise_taken howner) rfl rfl,
    fun hfree => exec_of_one_event rfl rfl hfree rfl (engineLower_taken howner) rfl rfl⟩

/-- Settles O32: R36's three cases of the order BEHIND leaves. -/
theorem behindPlacesThePane : Obligations.BehindPlacesThePane := by
  intro s x p q hs howner hfree
  refine ⟨s.putBehind p q,
    exec_of_one_event rfl rfl hfree rfl (engineBehind_taken q howner) rfl rfl,
    fun hpq => if_pos hpq, fun hpq hsame => ?_, fun hpq hdiffer => ?_⟩
  · rw [← hs.stackWithout_eq p]
    exact hs.putBehind_split hpq hsame
  · rw [← hs.atBoundary_eq p]
    exact (if_neg hpq).trans (if_neg hdiffer)

end Sys2Proof.Machine
end

section
/-! ### CELL_ACCESS and COMMAND_COMPLETION (R87, R94) -/

namespace Sys2Proof.Machine

variable {s : State} {f : Flight} {m : Micro} {rest : List Micro}

/-! #### One step and the searches after it -/

/-- A step and the arbiter's searches after it leave the command in flight with the steps it has left, which
keep the arbiter quiet, or at its end (R87, R91). -/
theorem State.arbitrate_stepDone (s : State) (f : Flight) (m : Micro) (rest : List Micro) :
    (s.stepDone f m rest).arbitrate =
      (m.effect f s).goOn (m.progress f s) (dropIdleMark (m.progress f s).old rest) := by
  simp only [State.stepDone, State.goOn, List.isEmpty_iff]
  split
  · rw [Micro.progress_port]
    rfl
  · exact State.arbitrate_of_none (State.arbiterPick_eq_none (.inl (Option.some_ne_none _)))

/-- CELL_ACCESS of a step whose address, if it forms one, is in the plane. -/
theorem exec_cellAccess_next (hf : s.flight = some f) (ht : f.todo = m :: rest)
    (ha : ∀ a, m.address (s.pane f.pane).view = some a → a < Config.planeSize) :
    exec .cellAccess s = .next
      ((m.effect f s).goOn (m.progress f s) (dropIdleMark (m.progress f s).old rest)) := by
  rw [← State.arbitrate_stepDone]
  exact congrArg thenArbitrate (engineStep_cons hf ht ha)

/-- CELL_ACCESS of a step whose address is past the plane stops the model (log 20). -/
theorem exec_cellAccess_fault (hf : s.flight = some f) (ht : f.todo = m :: rest) {a : Nat}
    (ha : m.address (s.pane f.pane).view = some a) (hpast : Config.planeSize ≤ a) :
    exec .cellAccess s = .fault (.noSuchCell a) := by
  have past : engineStep s = .fault (.noSuchCell a) := by
    simp only [engineStep, hf, ht, ha, if_neg (Nat.not_lt.mpr hpast)]
  exact congrArg thenArbitrate past

/-! #### What the steps do that change a port -/

/-- A full write of PLACE or SWEEP, kept off a guarded cell without override (R8, R96, R98). -/
theorem Micro.effect_put_guarded (f : Flight) (s : State) (col row : Nat) (cell : Cell)
    (override : Bool) :
    (Micro.put col row cell override).effect f s =
      if (s.cell ((s.pane f.pane).view.cellAddr col row)).attr.guarded = true ∧ override = false then s
      else s.writeCell ((s.pane f.pane).view.cellAddr col row) cell := by
  simp only [Micro.effect, Bool.and_eq_true, Bool.not_eq_true']

/-- Reply words of a step join the buffer in the places its command has reserved for them (R89). -/
theorem State.updPort_appendReply (s : State) (x : Port) (ws : List Word)
    (h : ws.length ≤ (s.port x).reserved) :
    (s.updPort x fun p => p.appendReply ws) = s.setPort x { s.port x with
      reply := (s.port x).reply ++ ws, reserved := (s.port x).reserved - ws.length } := by
  rw [State.updPort_eq, PortState.appendReply_eq _ _ h]

theorem Micro.effect_read (f : Flight) (s : State) (col row : Nat)
    (h : 2 ≤ (s.port f.port).reserved) :
    (Micro.read col row).effect f s = s.setPort f.port { s.port f.port with
      reply := (s.port f.port).reply ++ cellWords (s.cell ((s.pane f.pane).view.cellAddr col row))
      reserved := (s.port f.port).reserved - 2 } :=
  s.updPort_appendReply f.port (cellWords _) h

theorem Micro.effect_readBitmap (f : Flight) (s : State) (slotOption : Bool) (slot : Fin 16)
    (code : Code) (h : 8 ≤ (s.port f.port).reserved) :
    (Micro.readBitmap slotOption slot code).effect f s = s.setPort f.port { s.port f.port with
      reply := (s.port f.port).reply ++ readBackWords (s.chosenRow slotOption slot code)
      reserved := (s.port f.port).reserved - 8 } :=
  s.updPort_appendReply f.port (readBackWords _) h

/-- A refusal under each REFUSE mode (R92, R195). -/
theorem PortState.refuse_modes (p : PortState) (code : RefusalCode) :
    p.refuse code =
      let r := { p.faults with sticky := p.faults.sticky.set code.flag, lastRefusal := some code }
      match p.faults.refuseMode with
      | .ignore => { p with faults := { p.faults with lastRefusal := some code } }
      | .report => { p with faults := r }
      | .resumeFast => { p with faults :=
          if r.condition = .halted then { r with retry := none }
          else { r with condition := .paused, retry := some 2 } }
      | .resumeSlow => { p with faults :=
          if r.condition = .halted then { r with retry := none }
          else { r with condition := .paused, retry := some 50 } }
      | .latch => { p with
          faults := { r with condition := .halted, retry := none }, queue := [] } := by
  cases hm : p.faults.refuseMode <;> simp only [PortState.refuse, FaultMode.act, hm]
  case report | latch => simp [FaultRecord.setFlags, hm]
  case resumeFast | resumeSlow =>
    by_cases h : p.faults.condition = .halted <;>
      simp [FaultRecord.pause, FaultRecord.setFlags, h, hm]

/-! #### The last step (R87) -/

/-- The next step of a command in flight is its last when nothing is left behind it but a mark event of a
TICK with result SAME (R67). -/
theorem State.atLastStep_iff (hf : s.flight = some f) (ht : f.todo = m :: rest) :
    s.atLastStep = true ↔ dropIdleMark (m.progress f s).old rest = [] := by
  simp only [State.atLastStep, hf, ht, List.isEmpty_iff]

/-- The last step of a command is its effect and the completion. -/
theorem State.stepDone_completes (h : dropIdleMark (m.progress f s).old rest = []) :
    s.stepDone f m rest = (m.effect f s).complete f.port := by
  simp only [State.stepDone, h, List.isEmpty_nil, if_true]

/-- COMMAND_COMPLETION is the CELL_ACCESS of the last step. -/
theorem exec_commandCompletion_last (h : s.atLastStep = true) :
    exec .commandCompletion s = exec .cellAccess s := if_pos h

/-- The CELL_ACCESS of the last step empties the engine and leaves nothing reserved. -/
theorem exec_cellAccess_completes {t : State} (hf : s.flight = some f) (ht : f.todo = m :: rest)
    (hlast : dropIdleMark (m.progress f s).old rest = []) (h : exec .cellAccess s = .next t) :
    ∃ u, engineStep s = .next u ∧ t = u.arbitrate ∧ u.flight = none ∧
      (u.port f.port).reserved = 0 := by
  obtain ⟨u, hu, rfl⟩ := thenArbitrate_next h
  refine ⟨u, hu, rfl, ?_⟩
  rcases engineStep_next hu with ⟨hnone, -⟩ | ⟨g, hg, hnil, -⟩ | ⟨g, k, later, hg, hk, -, rfl⟩
  · simp [hf] at hnone
  · simp [← Option.some.inj (hf.symm.trans hg), ht] at hnil
  · obtain rfl := Option.some.inj (hf.symm.trans hg)
    obtain ⟨rfl, rfl⟩ := List.cons.inj (ht.symm.trans hk)
    rw [State.stepDone_completes hlast]
    exact ⟨rfl, by simp [State.complete, PortState.releaseReserved]⟩

/-- Settles O22: a step is its effect, then the rest of the command or its end; the cases say what the
effect of each kind of step is. -/
theorem cellAccessAndCompletion : Obligations.CellAccessAndCompletion := by
  refine ⟨fun s f m rest v hf ht hv => ⟨fun a ha => ?_, fun ha => ?_⟩,
    fun s f m rest hf ht => ⟨fun hlast => ?_, fun hmore => ?_⟩, fun s f line col hf ht ha => ?_,
    fun s hf => ?_⟩
  · exact exec_cellAccess_fault hf ht (hv ▸ ha)
  · subst hv
    have next := exec_cellAccess_next hf ht ha
    cases m
    case put col row cell override =>
      rw [Micro.effect_put_guarded] at next
      exact next
    case read col row =>
      intro hroom
      rw [Micro.effect_read f s col row hroom] at next
      exact next
    case readBitmap slotOption slot code =>
      intro hroom
      rw [Micro.effect_readBitmap f s slotOption slot code hroom] at next
      exact next
    case refuse code =>
      have refused := PortState.refuse_modes (s.port f.port) code
      exact next.trans
        (congrArg (fun p => Host.Outcome.next ((s.setPort f.port p).goOn f _)) refused)
    all_goals exact next
  · have last := exec_commandCompletion_last ((State.atLastStep_iff hf ht).mpr hlast)
    exact ⟨last, fun t h => exec_cellAccess_completes hf ht hlast (last ▸ h)⟩
  · exact if_neg (hmore ∘ (State.atLastStep_iff hf ht).mp)
  · rw [exec_commandCompletion_last ((State.atLastStep_iff hf ht).mpr rfl),
      exec_cellAccess_next hf ht fun a h => Option.some.inj h ▸ ha]
    rfl
  · have idle : engineStep s = .next s := by simp only [engineStep, hf]
    have access : exec .cellAccess s = .next s.arbitrate := congrArg thenArbitrate idle
    exact ⟨(exec_commandCompletion_last (by simp only [State.atLastStep, hf])).trans access, access⟩

end Sys2Proof.Machine
end

section
/-! ### SET_TOP, and the ROLLs that have one event (R46, R47, R49) -/

namespace Sys2Proof.Machine

variable {s : State} {x : Port} {p : PaneId}

/-! #### The checks -/

/-- What a SET_TOP that passes its checks has: an owned, defined pane, and a top line of its ring (R46). -/
theorem State.setTop_passes {top fine : Nat} (h : s.verdict x (.setTop p top fine) = none) :
    (s.pane p).owner = some x ∧ (s.pane p).defined = true ∧
      ((s.pane p).view.frozen < (s.pane p).view.ringLines →
        (s.pane p).view.frozen ≤ top ∧ top < (s.pane p).view.ringLines) ∧
      ((s.pane p).view.ringLines = (s.pane p).view.frozen → top = (s.pane p).view.frozen) := by
  simpa [State.checks, Command.ownerPane, Pane.defined] using State.checks_passed h

/-- What a ROLL that passes its checks has: an owned, defined pane (R47). -/
theorem State.roll_passes {k : Int} {clear : Bool} (h : s.verdict x (.roll p k clear) = none) :
    (s.pane p).owner = some x ∧ (s.pane p).defined = true := by
  simpa [State.checks, Command.ownerPane, Pane.defined] using State.checks_passed h

/-! #### What the commands that are taken do -/

theorem engineSetTop_taken {top fine : Nat} (h : s.verdict x (.setTop p top fine) = none) :
    engineSetTop x p top fine s =
      s.setView p { (s.pane p).view with top := top, fine := fine } := by
  obtain ⟨howner, hd, hring, hnone⟩ := State.setTop_passes h
  have inRing : ¬((s.pane p).view.frozen < (s.pane p).view.ringLines ∧
      (top < (s.pane p).view.frozen ∨ (s.pane p).view.ringLines ≤ top)) := by omega
  have atNone : ¬((s.pane p).view.ringLines = (s.pane p).view.frozen ∧
      ¬top = (s.pane p).view.frozen) := by omega
  simp only [engineSetTop, State.owns_of_owner howner, hd, Bool.not_true, Bool.false_eq_true,
    if_false, Bool.and_eq_true, Bool.or_eq_true, decide_eq_true_eq, ne_eq, inRing, atNone]

section Roll

variable {k : Int} {clear : Bool} (h : s.verdict x (.roll p k clear) = none)

include h

/-- A ROLL of 0, or of a pane with no ring proper, has no effect (R47, R49). -/
theorem beginRoll_idle (hidle : (s.pane p).view.ringLines = (s.pane p).view.frozen ∨ k = 0) :
    beginRoll x p k clear s = s := by
  obtain ⟨howner, hd⟩ := State.roll_passes h
  simp [beginRoll, State.owns_of_owner howner, hd, hidle]

/-- A ROLL that clears nothing moves the top line forward: by its count, or backward by going on round the
ring (R47). -/
theorem beginRoll_moves (hring : (s.pane p).view.ringLines ≠ (s.pane p).view.frozen)
    (hk : k < 0 ∨ (0 < k ∧ clear = false)) :
    beginRoll x p k clear s = s.setView p ((s.pane p).view.advanced
      (if 0 < k then rollBy (s.pane p).view k
        else (s.pane p).view.ringSize - rollBy (s.pane p).view k)) := by
  obtain ⟨howner, hd⟩ := State.roll_passes h
  have hzero : k ≠ 0 := by omega
  rcases hk with hback | ⟨hforward, rfl⟩
  · have hnot : ¬0 < k := by omega
    simp [beginRoll, State.owns_of_owner howner, hd, hring, hzero, hnot]
  · simp [beginRoll, State.owns_of_owner howner, hd, hring, hzero, hforward]

/-- A forward ROLL with its clear is taken with its steps (R48). -/
theorem beginRoll_steps (hring : (s.pane p).view.ringLines ≠ (s.pane p).view.frozen) (hk : 0 < k)
    (hclear : clear = true) :
    beginRoll x p k clear s =
      s.takeFlight x false (rollSteps (s.pane p).view (rollBy (s.pane p).view k)) := by
  obtain ⟨howner, hd⟩ := State.roll_passes h
  simp [beginRoll, State.owns_of_owner howner, hd, hring, hk.ne', hk, hclear]

end Roll

/-! #### The line at the top -/

theorem PaneView.advanced_of_ring {v : PaneView} (h : v.frozen < v.ringLines) (c : Nat) :
    v.advanced c = { v with top := v.ringLine c } := if_pos h

/-- The line at a position of the ring, as an integer. -/
theorem PaneView.ringLine_int {v : PaneView} (hring : v.frozen ≤ v.ringLines)
    (htop : v.frozen ≤ v.top) (k : Nat) :
    (v.ringLine k : Int) =
      v.frozen + ((v.top : Int) - v.frozen + k) % ((v.ringLines : Int) - v.frozen) := by
  unfold PaneView.ringLine PaneView.ringSize
  push_cast [Nat.cast_sub hring, Nat.cast_sub htop]
  rfl

/-- The line a whole turn less `c` ahead of the top line is the one `c` behind it. -/
theorem PaneView.ringLine_back {v : PaneView} (hring : v.frozen ≤ v.ringLines)
    (htop : v.frozen ≤ v.top) {c : Nat} (hc : c ≤ v.ringSize) :
    (v.ringLine (v.ringSize - c) : Int) =
      v.frozen + ((v.top : Int) - v.frozen + -c) % ((v.ringLines : Int) - v.frozen) := by
  have turn : ((v.ringSize - c : Nat) : Int) = -c + ((v.ringLines : Int) - v.frozen) := by
    unfold PaneView.ringSize at hc ⊢
    omega
  rw [PaneView.ringLine_int hring htop, turn, ← Int.add_assoc, Int.add_emod_right]

/-- The top line of a legal pane is no frozen line (R22). -/
theorem PaneView.Legal.frozen_le_top {v : PaneView} (h : v.Legal) : v.frozen ≤ v.top := by
  obtain ⟨-, -, -, -, -, -, -, -, -, -, -, -, -, htop⟩ := h
  split at htop
  · exact htop.ge
  · obtain ⟨hlow, -⟩ := htop
    exact hlow

/-- The frozen lines of a legal pane are lines of its region (R22). -/
theorem PaneView.Legal.frozen_le_ringLines {v : PaneView} (h : v.Legal) : v.frozen ≤ v.ringLines :=
  h.frozen_le_height.trans h.height_le_ringLines

/-- Settles O34: each of these commands has one event, and the ring's arithmetic says where the top line
goes. -/
theorem topLineMoves : Obligations.TopLineMoves := by
  intro s x p v hv
  subst hv
  refine ⟨fun top fine hc hfree hverdict => ?_, fun k clear hc hfree hverdict hl => ⟨fun hidle => ?_,
    fun hring hk => ⟨(s.pane p).view.ringLine (if 0 < k then rollBy (s.pane p).view k
      else (s.pane p).view.ringSize - rollBy (s.pane p).view k), ?_, fun c hcount => ?_⟩⟩⟩
  · exact exec_of_one_event rfl hc hfree rfl
      (engineSetTop_taken (s := s.grantedNow x (.setTop p top fine)) hverdict) rfl rfl
  · exact exec_of_one_event rfl hc hfree rfl
      (beginRoll_idle (s := s.grantedNow x (.roll p k clear)) hverdict hidle) rfl rfl
  · rw [← PaneView.advanced_of_ring (hl.frozen_le_ringLines.lt_of_ne' hring)]
    exact exec_of_one_event rfl hc hfree rfl
      (beginRoll_moves (s := s.grantedNow x (.roll p k clear)) hverdict hring hk) rfl rfl
  · have hfrozen := hl.frozen_le_ringLines
    have count : c = rollBy (s.pane p).view k := hcount
    split_ifs
    · rw [PaneView.ringLine_int hfrozen hl.frozen_le_top, count]
    · have within : rollBy (s.pane p).view k ≤ (s.pane p).view.ringSize := Nat.min_le_right _ _
      rw [PaneView.ringLine_back hfrozen hl.frozen_le_top within, count]

end Sys2Proof.Machine
end

section
/-! ### Commands that write whole lines and move the top line (R48, R51)

The steps of a ROLL with its clear and of a LOG are writes into lines, then the discarding of LOG's last
codes, then the top-line update. None of them changes the command in flight, and a moved top line leaves
every later step in its pane, so the command runs as the effects of its steps one after another. -/

namespace Sys2Proof.Machine

/-! #### The steps -/

/-- A full write into a line, made whatever guard the cell has (R48, R51). -/
def Micro.isLineWrite : Micro → Bool
  | .clearCell _ _ | .text _ _ _ => true
  | .put _ _ _ _ | .tint _ _ _ _ | .load _ _ | .store _ _ | .read _ _ | .readOld _ _ | .putCode _ _ _
  | .markEvent _ _ _ _ | .arrow _ _ _ | .advance _ | .discard | .readBitmap _ _ _ | .refuse _ => false

/-- A step of a ROLL or a LOG. -/
def Micro.scrolls : Micro → Bool
  | .clearCell _ _ | .text _ _ _ | .advance _ | .discard => true
  | .put _ _ _ _ | .tint _ _ _ _ | .load _ _ | .store _ _ | .read _ _ | .readOld _ _ | .putCode _ _ _
  | .markEvent _ _ _ _ | .arrow _ _ _ | .readBitmap _ _ _ | .refuse _ => false

namespace Micro

variable {m : Micro}

section LineWrite

variable (hm : m.isLineWrite = true)

include hm

theorem isWrite_of_isLineWrite : m.isWrite = true := by
  cases m <;> simp only [isLineWrite, Bool.false_eq_true] at hm <;> rfl

theorem scrolls_of_isLineWrite : m.scrolls = true := by
  cases m <;> simp only [isLineWrite, Bool.false_eq_true] at hm <;> rfl

/-- A write into a line stores its code over every cell (R8, R48). -/
theorem stores_of_isLineWrite (old : Cell) : m.stores old = true := by
  cases m <;> simp only [isLineWrite, Bool.false_eq_true] at hm <;> rfl

end LineWrite

section Scrolls

variable (hm : m.scrolls = true) (f : Flight) (s : State)

include hm

/-- The step leaves the command in flight as it is. -/
theorem progress_scrolls : m.progress f s = f := by
  cases m <;> simp only [scrolls, Bool.false_eq_true] at hm <;> rfl

/-- The step asks of the command in flight only its port and its pane. -/
theorem effect_scrolls_flight (todo : List Micro) (k : Option Flight) :
    m.effect { f with todo := todo } { s with flight := k } = { m.effect f s with flight := k } := by
  cases m <;> simp only [scrolls, Bool.false_eq_true] at hm <;> rfl

theorem flight_effect_scrolls : (m.effect f s).flight = s.flight := by
  cases m <;> simp only [scrolls, Bool.false_eq_true] at hm <;> rfl

theorem reserved_effect_scrolls :
    ((m.effect f s).port f.port).reserved = (s.port f.port).reserved := by
  cases m <;> simp only [scrolls, Bool.false_eq_true] at hm
  case discard => simp [effect, State.setClip]
  case clearCell | text | advance => rfl

/-- The step leaves the record of its pane, or moves its top line. -/
theorem pane_effect_scrolls :
    (m.effect f s).pane f.pane = s.pane f.pane ∨
      ∃ c, (m.effect f s).pane f.pane =
        { s.pane f.pane with view := (s.pane f.pane).view.advanced c } := by
  cases m <;> simp only [scrolls, Bool.false_eq_true] at hm
  case advance c => exact .inr ⟨c, s.pane_setView_same f.pane _⟩
  case clearCell | text | discard => exact .inl rfl

/-- The step leaves its pane legal. -/
theorem legal_effect_scrolls (h : (s.pane f.pane).view.Legal) :
    ((m.effect f s).pane f.pane).view.Legal := by
  rcases pane_effect_scrolls hm f s with e | ⟨c, e⟩ <;> rw [e]
  · exact h
  · exact h.advanced c

/-- A step that fits the pane fits it after the step. -/
theorem fits_effect_scrolls {n : Micro} (h : n.fits (s.pane f.pane)) :
    n.fits ((m.effect f s).pane f.pane) := by
  rcases pane_effect_scrolls hm f s with e | ⟨c, e⟩ <;> rw [e]
  · exact h
  · rw [PaneView.advanced_eq]
    exact h.congr rfl rfl rfl rfl rfl

end Scrolls

end Micro

/-- No step of a ROLL or a LOG is dropped as the mark event of a TICK is. -/
theorem dropIdleMark_scrolls {old : List Code} {todo : List Micro}
    (h : ∀ m ∈ todo, m.scrolls = true) : dropIdleMark old todo = todo := by
  cases todo with
  | nil => rfl
  | cons m rest =>
    have hm := h m List.mem_cons_self
    cases m <;> simp only [Micro.scrolls, Bool.false_eq_true] at hm <;> rfl

/-! #### A run of the steps -/

/-- The state with command `f` in flight and these steps left. -/
def State.flying (s : State) (f : Flight) (todo : List Micro) : State :=
  { s with flight := some { f with todo := todo } }

/-- The command in flight that a grant of command `c` of port `x` makes, its execution not begun (R90). -/
def grantedFlight (x : Port) (c : Command) : Flight :=
  ⟨x, encodeCommand c, Command.named c, [], none, []⟩

section Run

variable {s : State} {f : Flight} {m : Micro} {rest : List Micro}

/-- A step of a ROLL or a LOG in its pane is its effect, with the rest of the steps left or at the end. -/
theorem engineStep_flying (hs : ∀ k ∈ m :: rest, k.scrolls = true) (hfit : m.fits (s.pane f.pane))
    (hl : (s.pane f.pane).view.Legal) :
    engineStep (s.flying f (m :: rest)) = .next
      (if rest = [] then (m.effect f s).complete f.port else (m.effect f s).flying f rest) := by
  have hm := hs m List.mem_cons_self
  have hrest : ∀ k ∈ rest, k.scrolls = true := fun k hk => hs k (List.mem_cons_of_mem _ hk)
  have effect : m.effect { f with todo := m :: rest } (s.flying f (m :: rest)) =
      (m.effect f s).flying f (m :: rest) := Micro.effect_scrolls_flight hm f s _ _
  have done : (s.flying f (m :: rest)).stepDone { f with todo := m :: rest } m rest =
      if rest = [] then (m.effect f s).complete f.port else (m.effect f s).flying f rest := by
    simp only [State.stepDone, Micro.progress_scrolls hm, dropIdleMark_scrolls hrest, effect,
      List.isEmpty_iff]
    rfl
  rw [← done]
  exact engineStep_cons rfl rfl fun a ha => hfit.address_lt (fun _ => hl) ha

/-- A ROLL or a LOG in flight runs as the effects of its steps, and completes. -/
theorem engineSteps_flying (hs : ∀ k ∈ m :: rest, k.scrolls = true)
    (hfit : ∀ k ∈ m :: rest, k.fits (s.pane f.pane)) (hl : (s.pane f.pane).view.Legal) :
    engineSteps (m :: rest).length (s.flying f (m :: rest)) =
      .next ((runWrites f (m :: rest) s).complete f.port) := by
  have step := engineStep_flying hs (hfit m List.mem_cons_self) hl
  induction rest generalizing s m with
  | nil =>
    rw [if_pos rfl] at step
    simp only [List.length_singleton, engineSteps, step]
    rfl
  | cons k rest ih =>
    have hm := hs m List.mem_cons_self
    have hlater : ∀ n ∈ k :: rest, n.scrolls = true := fun n hn => hs n (List.mem_cons_of_mem _ hn)
    have fit : ∀ n ∈ k :: rest, n.fits ((m.effect f s).pane f.pane) := fun n hn =>
      Micro.fits_effect_scrolls hm f s (hfit n (List.mem_cons_of_mem _ hn))
    have legal := Micro.legal_effect_scrolls hm f s hl
    rw [if_neg (List.cons_ne_nil k rest)] at step
    calc engineSteps (m :: k :: rest).length (s.flying f (m :: k :: rest))
        = engineSteps (k :: rest).length ((m.effect f s).flying f (k :: rest)) := by
          simp only [List.length_cons, engineSteps, step]
      _ = .next ((runWrites f (m :: k :: rest) s).complete f.port) :=
          ih hlater fit legal (engineStep_flying hlater (fit k List.mem_cons_self) legal)

/-- The effects of a run of these steps leave the engine and the reservation. -/
theorem runWrites_scrolls {todo : List Micro} (hs : ∀ k ∈ todo, k.scrolls = true) :
    (runWrites f todo s).flight = s.flight ∧
      ((runWrites f todo s).port f.port).reserved = (s.port f.port).reserved := by
  induction todo generalizing s with
  | nil => exact ⟨rfl, rfl⟩
  | cons m rest ih =>
    have hm := hs m List.mem_cons_self
    rw [← Micro.flight_effect_scrolls hm f s, ← Micro.reserved_effect_scrolls hm f s]
    exact ih fun k hk => hs k (List.mem_cons_of_mem _ hk)

/-- The row of a command taken with such steps in its pane, on a port served at once, runs them on the
state its delivery leaves. -/
theorem exec_of_scrolls {i : Instr} {x : Port} {c : Command} (hi : i.command = some (x, c))
    (hc : c.WellFormed = true) (hfree : s.freeFor x c = true)
    (hstart : startCommand x c (s.grantedNow x c) = (s.grantedNow x c).takeFlight x false (m :: rest))
    (hneed : replyNeed (some c) = 0) (hs : ∀ k ∈ m :: rest, k.scrolls = true)
    (hfit : ∀ k ∈ m :: rest, k.fits (s.pane (Command.named c)))
    (hl : (s.pane (Command.named c)).view.Legal) :
    exec i s = .next (runWrites (grantedFlight x c) (m :: rest) (s.delivered x c)) := by
  obtain ⟨flight, reserved⟩ :=
    runWrites_scrolls (f := grantedFlight x c) (s := s.delivered x c) hs
  have idle := flight.trans (State.servedAtOnce hfree).idle
  have unreserved := reserved.trans ((s.delivered_setClip_reserved x c false).trans hneed)
  have run := engineSteps_flying (f := grantedFlight x c) (s := s.delivered x c) hs hfit hl
  rw [exec_of_freeFor hi hc hfree, State.begun_eq, beginCommand, hstart,
    State.completeIfDone_cons x rfl rfl]
  exact run.trans (congrArg _ (State.complete_idle idle unreserved))

end Run

end Sys2Proof.Machine
end

section
/-! ### A ROLL with its clear, and LOG (R47, R48, R50, R51) -/

namespace Sys2Proof.Machine

variable {s : State} {x : Port} {p : PaneId} {writes : List Micro}

/-! #### What a run of writes into lines leaves -/

/-- The cells of a state are those of its plane. -/
theorem State.cell_of_plane {t u : State} (h : t.plane = u.plane) (a : Nat) : t.cell a = u.cell a :=
  congrArg (Plane.read · a) h

theorem runWrites_append (f : Flight) (front back : List Micro) (s : State) :
    runWrites f (front ++ back) s = runWrites f back (runWrites f front s) := List.foldl_append

/-- A cell that is reached, in which every step that reaches it stores the same, holds that. -/
theorem runWrites_cell_of_same (f : Flight) (s : State) (hw : ∀ m ∈ writes, m.isWrite = true)
    (hwf : s.plane.wf = true) {a : Nat} {cell : Cell}
    (hreached : ∃ m ∈ writes, m.address (s.pane f.pane).view = some a)
    (hsame : ∀ m ∈ writes, m.address (s.pane f.pane).view = some a →
      ∀ old, m.newCell (s.pane f.pane) old = cell) :
    (runWrites f writes s).cell a = cell := by
  induction writes generalizing s with
  | nil => simp at hreached
  | cons k rest ih =>
    have hk := hw k List.mem_cons_self
    have hrest : ∀ n ∈ rest, n.isWrite = true := fun n hn => hw n (List.mem_cons_of_mem _ hn)
    have pane := Micro.effect_write_pane f s hk f.pane
    show (runWrites f rest (k.effect f s)).cell a = cell
    by_cases later : ∃ m ∈ rest, m.address (s.pane f.pane).view = some a
    · exact ih _ hrest (Micro.effect_wf f s hwf) (by rwa [pane])
        (by simpa only [pane] using fun m hm => hsame m (List.mem_cons_of_mem _ hm))
    · have now : k.address (s.pane f.pane).view = some a := by
        simpa [later] using hreached
      rw [runWrites_cell_other f _ hrest fun m hm e => later ⟨m, hm, pane ▸ e⟩,
        Micro.effect_write_cell f s hk hwf now, hsame k List.mem_cons_self now]

/-- Writes into lines remove the marks over every address they form (R48, R75). -/
theorem runWrites_marks_addresses (f : Flight) (s : State)
    (hw : ∀ m ∈ writes, m.isLineWrite = true) :
    (runWrites f writes s).marks =
      marksLeft s.marks (writes.filterMap (Micro.address (s.pane f.pane).view)) := by
  induction writes generalizing s with
  | nil => simp [runWrites, marksLeft]
  | cons k rest ih =>
    have hk := hw k List.mem_cons_self
    have hkw := Micro.isWrite_of_isLineWrite hk
    obtain ⟨a, ha⟩ := Micro.address_of_isWrite hkw (s.pane f.pane).view
    show (runWrites f rest (k.effect f s)).marks = _
    rw [ih _ fun n hn => hw n (List.mem_cons_of_mem _ hn), Micro.effect_write_pane f s hkw,
      Micro.effect_write_marks f s hkw ha, Micro.stores_of_isLineWrite hk, marksLeft_append,
      List.filterMap_cons, ha]
    rfl

/-- The marks that writes into lines leave, given the cells they reach. -/
theorem runWrites_marks_of_lineWrites (f : Flight) (s : State)
    (hw : ∀ m ∈ writes, m.isLineWrite = true) {written : List Nat}
    (h : ∀ a, a ∈ written ↔ ∃ m ∈ writes, m.address (s.pane f.pane).view = some a) :
    (runWrites f writes s).marks = marksLeft s.marks written := by
  rw [runWrites_marks_addresses f s hw]
  exact marksLeft_congr _ fun a => by rw [h, List.mem_filterMap]

/-- The steps that follow the writes: the discarding of LOG's last codes, and the top-line update. -/
theorem runWrites_tail (f : Flight) (cut : Bool) (n : Nat) (s : State) :
    runWrites f ((if cut then [.discard] else []) ++ [.advance n]) s =
      (s.setClip f.port cut).setView f.pane ((s.pane f.pane).view.advanced n) := by
  cases cut <;> rfl

/-- The row of a command whose steps are writes into lines of its pane, the discarding of codes where some
are cut off, and the top-line update: the writes decide the plane and the marks, and nothing else changes
but CLIP and the top line. -/
theorem exec_of_lineWrites {i : Instr} {c : Command} {cut : Bool} {n : Nat} {todo : List Micro}
    {written : List Nat} (hi : i.command = some (x, c)) (hp : Command.named c = p)
    (hc : c.WellFormed = true) (hfree : s.freeFor x c = true)
    (hstart : startCommand x c (s.grantedNow x c) = (s.grantedNow x c).takeFlight x false todo)
    (htodo : todo = writes ++ ((if cut then [.discard] else []) ++ [.advance n]))
    (hneed : replyNeed (some c) = 0) (hw : ∀ m ∈ writes, m.isLineWrite = true)
    (hfit : ∀ m ∈ todo, m.fits (s.pane p)) (hl : (s.pane p).view.Legal)
    (hwritten : ∀ a, a ∈ written ↔ ∃ m ∈ writes, m.address (s.pane p).view = some a) :
    ∃ t, exec i s = .next t ∧
      t.plane = (runWrites (grantedFlight x c) writes (s.delivered x c)).plane ∧
      t = { ((s.delivered x c).setClip x cut).setPane p
              { s.pane p with view := (s.pane p).view.advanced n } with
            plane := t.plane, marks := marksLeft s.marks written } := by
  subst hp
  have scrolls : ∀ m ∈ todo, m.scrolls = true := fun m hm => by
    rw [htodo] at hm
    rcases List.mem_append.mp hm with hm | hm
    · exact Micro.scrolls_of_isLineWrite (hw m hm)
    · cases cut <;> simp at hm
      · rw [hm]; rfl
      · rcases hm with rfl | rfl <;> rfl
  obtain ⟨m, rest, hcons⟩ : ∃ m rest, todo = m :: rest :=
    List.exists_cons_of_ne_nil (by simp [htodo])
  have run := exec_of_scrolls hi hc hfree (hcons ▸ hstart) hneed (hcons ▸ scrolls) (hcons ▸ hfit) hl
  rw [← hcons, htodo, runWrites_append, runWrites_tail] at run
  have only := runWrites_eq (grantedFlight x c) (s.delivered x c) fun m hm =>
    Micro.isWrite_of_isLineWrite (hw m hm)
  have marks := runWrites_marks_of_lineWrites (grantedFlight x c) (s.delivered x c) hw hwritten
  rw [marks] at only
  refine ⟨_, run, by cases cut <;> rfl, ?_⟩
  rw [only]
  cases cut <;> rfl

/-! #### The clear of lines (R48) -/

/-- The steps that clear lines whole, one line after another. -/
def clearLines (v : PaneView) (lines : List Nat) : List Micro := lines.flatMap (clearSteps v)

theorem mem_clearLines {v : PaneView} {lines : List Nat} {m : Micro} :
    m ∈ clearLines v lines ↔ ∃ line ∈ lines, ∃ col, col < v.pitch ∧ m = .clearCell line col := by
  simp only [clearLines, clearSteps, List.mem_flatMap, List.mem_map, List.mem_range, eq_comm]

theorem clearLines_isLineWrite {v : PaneView} {lines : List Nat} :
    ∀ m ∈ clearLines v lines, m.isLineWrite = true := fun m hm => by
  obtain ⟨line, -, col, -, rfl⟩ := mem_clearLines.mp hm
  rfl

/-- The clear of lines reaches all their cells. -/
theorem clearLines_address {v : PaneView} {lines : List Nat} {a : Nat} :
    (∃ m ∈ clearLines v lines, m.address v = some a) ↔
      ∃ line ∈ lines, ∃ col, col < v.pitch ∧ v.lineAddr line col = a := by
  constructor
  · rintro ⟨m, hm, ha⟩
    obtain ⟨line, hline, col, hcol, rfl⟩ := mem_clearLines.mp hm
    exact ⟨line, hline, col, hcol, Option.some.inj ha⟩
  · rintro ⟨line, hline, col, hcol, rfl⟩
    exact ⟨_, mem_clearLines.mpr ⟨line, hline, col, hcol, rfl⟩, rfl⟩

section Clear

variable {lines : List Nat}

/-- The cells of cleared lines hold the fill cell, guarded ones included. -/
theorem runWrites_clearLines (f : Flight) (hwf : s.plane.wf = true) {line col : Nat}
    (hline : line ∈ lines) (hcol : col < (s.pane f.pane).view.pitch) :
    (runWrites f (clearLines (s.pane f.pane).view lines) s).cell
      ((s.pane f.pane).view.lineAddr line col) = (s.pane f.pane).fill := by
  refine runWrites_cell_of_same f s
    (fun m hm => Micro.isWrite_of_isLineWrite (clearLines_isLineWrite m hm)) hwf
    (clearLines_address.mpr ⟨line, hline, col, hcol, rfl⟩) fun m hm _ old => ?_
  obtain ⟨l, -, k, -, rfl⟩ := mem_clearLines.mp hm
  rfl

/-- The clear of lines changes no other cell. -/
theorem runWrites_clearLines_other (f : Flight) {a : Nat}
    (ha : ∀ line ∈ lines, ∀ col, col < (s.pane f.pane).view.pitch →
      a ≠ (s.pane f.pane).view.lineAddr line col) :
    (runWrites f (clearLines (s.pane f.pane).view lines) s).cell a = s.cell a := by
  refine runWrites_cell_other f s
    (fun m hm => Micro.isWrite_of_isLineWrite (clearLines_isLineWrite m hm)) fun m hm h => ?_
  obtain ⟨line, hline, col, hcol, e⟩ := clearLines_address.mp ⟨m, hm, h⟩
  exact ha line hline col hcol e.symm

end Clear

/-! #### ROLL -/

/-- The steps of a ROLL: the lines that enter are cleared, and the top line moves. -/
theorem rollSteps_eq (v : PaneView) (c : Nat) :
    rollSteps v c =
      clearLines v ((List.range c).map fun i => v.ringLine (v.scrollRows + i)) ++
        ((if false then [.discard] else []) ++ [.advance c]) := by
  simp [rollSteps, clearLines, List.flatMap_map]

/-- Settles O35: a ROLL's steps clear the lines that enter, which decides every cell, and then move the top
line. -/
theorem rollWithClearBlanksTheLines : Obligations.RollWithClearBlanksTheLines := by
  intro s x p k v c lines hc hfree hverdict hv hl hwf hk hring hcount hlines
  subst hv
  obtain ⟨-, hdefined⟩ := State.roll_passes hverdict
  obtain rfl : c = rollBy (s.pane p).view k := hcount
  have entering : lines = (List.range (rollBy (s.pane p).view k)).map fun i =>
      (s.pane p).view.ringLine ((s.pane p).view.scrollRows + i) := by
    rw [hlines]
    exact List.map_congr_left fun i _ => by rw [Nat.add_assoc]; rfl
  have reached : ∀ a, a ∈ (lines.flatMap fun line => (List.range (s.pane p).view.pitch).map
      fun col => (s.pane p).view.base + line * (s.pane p).view.pitch + col) ↔
      ∃ m ∈ clearLines (s.pane p).view lines, m.address (s.pane p).view = some a := fun a => by
    simp only [clearLines_address, List.mem_flatMap, List.mem_map, List.mem_range,
      PaneView.lineAddr]
  obtain ⟨t, run, plane, frame⟩ := exec_of_lineWrites (i := .roll x p k true) (p := p) rfl rfl hc
    hfree
    (beginRoll_steps (s := s.grantedNow x (.roll p k true)) hverdict hring.ne' hk rfl)
    (entering ▸ rollSteps_eq (s.pane p).view _) rfl clearLines_isLineWrite
    (rollSteps_fits hdefined hring _) hl reached
  rw [PaneView.advanced_of_ring hring] at frame
  have cell := State.cell_of_plane plane
  refine ⟨t, run, ?_, fun line hline col hcol => ?_, fun a ha => ?_, frame⟩
  · rw [plane]
    exact runWrites_wf _ _ hwf
  · rw [cell]
    exact runWrites_clearLines (s := s.delivered x _) (grantedFlight x _) hwf hline hcol
  · rw [cell]
    exact runWrites_clearLines_other (s := s.delivered x _) (grantedFlight x _) ha

/-! #### LOG -/

/-- The steps that write a LOG's codes below the width into the entering line (R51). -/
def logText (v : PaneView) (attr : Attr) (codes : List Code) : List Micro :=
  (codes.take v.width).zipIdx.map fun e => .text v.entering e.2 ⟨e.1, attr⟩

theorem mem_logText {v : PaneView} {attr : Attr} {codes : List Code} {m : Micro} :
    m ∈ logText v attr codes ↔ ∃ (col : Nat) (code : Code), codes[col]? = some code ∧ col < v.width ∧
      m = .text v.entering col ⟨code, attr⟩ := by
  simp only [logText, List.mem_map, Prod.exists, List.mem_zipIdx_iff_getElem?, List.getElem?_take]
  constructor
  · rintro ⟨code, col, h, rfl⟩
    split at h
    · rename_i hcol
      exact ⟨col, code, h, hcol, rfl⟩
    · simp at h
  · rintro ⟨col, code, h, hcol, rfl⟩
    exact ⟨code, col, by rw [if_pos hcol]; exact h, rfl⟩

theorem logText_isLineWrite {v : PaneView} {attr : Attr} {codes : List Code} :
    ∀ m ∈ logText v attr codes, m.isLineWrite = true := fun m hm => by
  obtain ⟨col, code, -, -, rfl⟩ := mem_logText.mp hm
  rfl

/-- The text reaches the columns of the entering line that have a code and lie below the width. -/
theorem logText_address {v : PaneView} {attr : Attr} {codes : List Code} {a : Nat} :
    (∃ m ∈ logText v attr codes, m.address v = some a) ↔
      ∃ (col : Nat) (code : Code), codes[col]? = some code ∧ col < v.width ∧
        v.lineAddr v.entering col = a := by
  constructor
  · rintro ⟨m, hm, ha⟩
    obtain ⟨col, code, hcode, hcol, rfl⟩ := mem_logText.mp hm
    exact ⟨col, code, hcode, hcol, Option.some.inj ha⟩
  · rintro ⟨col, code, hcode, hcol, rfl⟩
    exact ⟨_, mem_logText.mpr ⟨col, code, hcode, hcol, rfl⟩, rfl⟩

section Text

variable {attr : Attr} {codes : List Code}

/-- A column with a code below the width holds that code. -/
theorem runWrites_logText (f : Flight) (hwf : s.plane.wf = true) {col : Nat} {code : Code}
    (hcode : codes[col]? = some code) (hcol : col < (s.pane f.pane).view.width) :
    (runWrites f (logText (s.pane f.pane).view attr codes) s).cell
      ((s.pane f.pane).view.lineAddr (s.pane f.pane).view.entering col) = ⟨code, attr⟩ := by
  refine runWrites_cell_of_same f s
    (fun m hm => Micro.isWrite_of_isLineWrite (logText_isLineWrite m hm)) hwf
    (logText_address.mpr ⟨col, code, hcode, hcol, rfl⟩) fun m hm ha old => ?_
  obtain ⟨k, other, hother, -, rfl⟩ := mem_logText.mp hm
  obtain rfl : k = col := Nat.add_left_cancel (Option.some.inj ha)
  rw [hcode] at hother
  rw [Option.some.inj hother]
  rfl

/-- The text changes no other cell. -/
theorem runWrites_logText_other (f : Flight) {a : Nat}
    (ha : ∀ (col : Nat) (code : Code), codes[col]? = some code → col < (s.pane f.pane).view.width →
      (s.pane f.pane).view.lineAddr (s.pane f.pane).view.entering col ≠ a) :
    (runWrites f (logText (s.pane f.pane).view attr codes) s).cell a = s.cell a := by
  refine runWrites_cell_other f s
    (fun m hm => Micro.isWrite_of_isLineWrite (logText_isLineWrite m hm)) fun m hm h => ?_
  obtain ⟨col, code, hcode, hcol, e⟩ := logText_address.mp ⟨m, hm, h⟩
  exact ha col code hcode hcol e

end Text

/-- The writes of a LOG: the entering line is cleared, and the text goes over the clear. -/
def logWrites (v : PaneView) (attr : Attr) (codes : List Code) : List Micro :=
  clearLines v [v.entering] ++ logText v attr codes

theorem logSteps_eq (v : PaneView) (attr : Attr) (codes : List Code) :
    logSteps v attr codes = logWrites v attr codes ++
      ((if decide (v.width < codes.length) then [.discard] else []) ++ [.advance 1]) := by
  simp [logSteps, logWrites, logText, clearLines]

theorem logWrites_isLineWrite {v : PaneView} {attr : Attr} {codes : List Code} :
    ∀ m ∈ logWrites v attr codes, m.isLineWrite = true := fun m hm =>
  (List.mem_append.mp hm).elim (clearLines_isLineWrite m) (logText_isLineWrite m)

/-- A LOG's writes reach the whole entering line, and nothing else. -/
theorem logWrites_address {v : PaneView} (hwidth : v.width ≤ v.pitch) {attr : Attr}
    {codes : List Code} {a : Nat} :
    (∃ m ∈ logWrites v attr codes, m.address v = some a) ↔
      ∃ col, col < v.pitch ∧ v.lineAddr v.entering col = a := by
  have split : (∃ m ∈ logWrites v attr codes, m.address v = some a) ↔
      (∃ m ∈ clearLines v [v.entering], m.address v = some a) ∨
        ∃ m ∈ logText v attr codes, m.address v = some a := by
    simp only [logWrites, List.mem_append, or_and_right, exists_or]
  rw [split, clearLines_address, logText_address]
  constructor
  · rintro (⟨line, hline, col, hcol, e⟩ | ⟨col, code, -, hcol, e⟩)
    · rw [List.mem_singleton.mp hline] at e
      exact ⟨col, hcol, e⟩
    · exact ⟨col, by omega, e⟩
  · rintro ⟨col, hcol, e⟩
    exact .inl ⟨_, List.mem_singleton_self _, col, hcol, e⟩

/-- What the entering line holds after a LOG's writes: the codes below the width, and the fill cell in every
other column up to the pitch (R48, R51). -/
theorem runWrites_logWrites (f : Flight) (hwf : s.plane.wf = true) (attr : Attr) (codes : List Code)
    {col : Nat} (hcol : col < (s.pane f.pane).view.pitch) :
    (runWrites f (logWrites (s.pane f.pane).view attr codes) s).cell
        ((s.pane f.pane).view.lineAddr (s.pane f.pane).view.entering col) =
      if col < (s.pane f.pane).view.width then
        (codes[col]?.map (Cell.mk · attr)).getD (s.pane f.pane).fill
      else (s.pane f.pane).fill := by
  obtain ⟨u, hu⟩ : ∃ u, u = runWrites f
      (clearLines (s.pane f.pane).view [(s.pane f.pane).view.entering]) s := ⟨_, rfl⟩
  have pane : u.pane f.pane = s.pane f.pane := by
    rw [hu, runWrites_eq f s fun m hm => Micro.isWrite_of_isLineWrite (clearLines_isLineWrite m hm)]
    rfl
  have uwf : u.plane.wf = true := hu ▸ runWrites_wf f s hwf
  have cleared : u.cell ((s.pane f.pane).view.lineAddr (s.pane f.pane).view.entering col) =
      (s.pane f.pane).fill := hu ▸ runWrites_clearLines f hwf (List.mem_singleton_self _) hcol
  rw [logWrites, runWrites_append, ← hu, ← pane]
  by_cases text : ∃ code, codes[col]? = some code ∧ col < (u.pane f.pane).view.width
  · obtain ⟨code, hcode, hwidth⟩ := text
    rw [runWrites_logText f uwf hcode hwidth, if_pos hwidth, hcode]
    rfl
  · have other : ∀ (k : Nat) (code : Code), codes[k]? = some code →
        k < (u.pane f.pane).view.width → (u.pane f.pane).view.lineAddr
          (u.pane f.pane).view.entering k ≠ (u.pane f.pane).view.lineAddr
            (u.pane f.pane).view.entering col := fun k code hcode hk e => by
      obtain rfl : k = col := Nat.add_left_cancel e
      exact text ⟨code, hcode, hk⟩
    rw [runWrites_logText_other f other, pane, cleared]
    split
    · rename_i hwidth
      have none : codes[col]? = none := by
        rw [Option.eq_none_iff_forall_ne_some]
        exact fun code hcode => text ⟨code, hcode, pane.symm ▸ hwidth⟩
      rw [none]
      rfl
    · rfl

/-- What a LOG that passes its checks has: an owned, defined pane with a ring proper (R50). -/
theorem State.log_passes {attr : Attr} {codes : List Code}
    (h : s.verdict x (.log p attr codes) = none) :
    (s.pane p).owner = some x ∧ (s.pane p).defined = true ∧
      (s.pane p).view.ringLines ≠ (s.pane p).view.frozen := by
  simpa [State.checks, Command.ownerPane, Pane.defined] using State.checks_passed h

theorem beginLog_steps {attr : Attr} {codes : List Code}
    (h : s.verdict x (.log p attr codes) = none) :
    beginLog x p attr codes s = s.takeFlight x false (logSteps (s.pane p).view attr codes) := by
  obtain ⟨howner, hd, hring⟩ := State.log_passes h
  simp [beginLog, State.owns_of_owner howner, hd, hring]

/-- Settles O36: a LOG's writes decide the entering line, and the steps behind them CLIP and the top
line. -/
theorem logWritesTheEnteringLine : Obligations.LogWritesTheEnteringLine := by
  intro s x p attr codes v start hc hfree hverdict hv hl hwf hstart
  subst hv
  obtain ⟨-, hdefined, hnone⟩ := State.log_passes hverdict
  have hring := hl.frozen_le_ringLines.lt_of_ne' hnone
  have address : ∀ col, (s.pane p).view.lineAddr (s.pane p).view.entering col = start + col :=
    fun col => by rw [hstart]; rfl
  have reached : ∀ a, a ∈ (List.range (s.pane p).view.pitch).map (start + ·) ↔
      ∃ m ∈ logWrites (s.pane p).view attr codes, m.address (s.pane p).view = some a := fun a => by
    simp only [logWrites_address hl.width_le_pitch, List.mem_map, List.mem_range, address]
  obtain ⟨t, run, plane, frame⟩ := exec_of_lineWrites (i := .log x p attr codes) (p := p) rfl rfl hc
    hfree (beginLog_steps (s := s.grantedNow x (.log p attr codes)) hverdict)
    (logSteps_eq (s.pane p).view attr codes) rfl logWrites_isLineWrite
    (logSteps_fits hdefined hl hring attr codes) hl reached
  rw [PaneView.advanced_of_ring hring] at frame
  have cell := State.cell_of_plane plane
  refine ⟨t, run, ?_, fun col hcol => ?_, fun a ha => ?_, frame⟩
  · rw [plane]
    exact runWrites_wf _ _ hwf
  · rw [cell, ← address]
    exact runWrites_logWrites (s := s.delivered x _) (grantedFlight x _) hwf attr codes hcol
  · rw [cell]
    refine runWrites_cell_other (grantedFlight x (.log p attr codes)) _
      (fun m hm => Micro.isWrite_of_isLineWrite (logWrites_isLineWrite m hm)) fun m hm h => ?_
    obtain ⟨col, hcol, e⟩ := (logWrites_address hl.width_le_pitch).mp ⟨m, hm, h⟩
    rw [address] at e
    omega

end Sys2Proof.Machine
end

section
/-! ### The mark table and the ramp (R71-R77, R132) -/

namespace Sys2Proof.Machine

variable {s t : State} {marks : List Mark}

/-! #### A table in good order -/

/-- A record covers 1 to 16 cells of the plane, in a stage 0-3 with 1-255 frames left (R71). -/
def Mark.Legal (m : Mark) : Prop :=
  (1 ≤ m.length ∧ m.length ≤ 16 ∧ m.start + m.length ≤ Config.planeSize) ∧
    m.stage ≤ 3 ∧ 1 ≤ m.left ∧ m.left ≤ 255

/-- No cell is under both records. -/
def Mark.Apart (m n : Mark) : Prop := ∀ a, ¬(m.covers a = true ∧ n.covers a = true)

/-- A table of at most 192 legal records with no cell under two (R71, R72). -/
structure TableLegal (marks : List Mark) : Prop where
  length : marks.length ≤ Config.maxMarks
  apart : marks.Pairwise Mark.Apart
  legal : ∀ m ∈ marks, m.Legal

/-- The law of the mark table is that of the table and of the two ramps. -/
theorem State.markLaw_iff :
    s.MarkLaw ↔ TableLegal s.marks ∧ s.ramp.Legal ∧ s.shownRamp.Legal :=
  ⟨fun ⟨length, apart, legal, ramp, shown⟩ => ⟨⟨length, apart, legal⟩, ramp, shown⟩,
    fun ⟨⟨length, apart, legal⟩, ramp, shown⟩ => ⟨length, apart, legal, ramp, shown⟩⟩

/-- Records removed leave a table in good order. -/
theorem TableLegal.sublist (h : TableLegal marks) {kept : List Mark} (hk : kept.Sublist marks) :
    TableLegal kept where
  length := hk.length_le.trans h.length
  apart := h.apart.sublist hk
  legal := fun m hm => h.legal m (hk.subset hm)

/-- Records removed and ramps that stay keep the law. -/
theorem State.MarkLaw.of_sublist (hs : s.MarkLaw) (hmarks : t.marks.Sublist s.marks)
    (hramp : t.ramp = s.ramp) (hshown : t.shownRamp = s.shownRamp) : t.MarkLaw := by
  obtain ⟨table, ramp, shown⟩ := State.markLaw_iff.mp hs
  exact State.markLaw_iff.mpr ⟨table.sublist hmarks, hramp ▸ ramp, hshown ▸ shown⟩

/-- The law is about the table and the ramps alone. -/
theorem State.MarkLaw.congr (hs : s.MarkLaw) (hmarks : t.marks = s.marks) (hramp : t.ramp = s.ramp)
    (hshown : t.shownRamp = s.shownRamp) : t.MarkLaw :=
  hs.of_sublist (hmarks ▸ .refl _) hramp hshown

/-! #### The ramps (R132, R133) -/

theorem Ramp.Legal.dir {r : Ramp} (h : r.Legal) (dir : Direction) :
    1 ≤ (r.dir dir).count ∧ (r.dir dir).count ≤ 4 ∧
      ∀ st ∈ (r.dir dir).stages.toList, 1 ≤ st.duration ∧ st.duration ≤ 255 :=
  h _ (by cases dir <;> simp [Ramp.dir])

/-- Every stage of a legal ramp lasts 1 to 255 frames, one past the fourth as an unused one. -/
theorem Ramp.Legal.duration {r : Ramp} (h : r.Legal) (dir : Direction) (k : Nat) :
    1 ≤ ((r.dir dir).stage k).duration ∧ ((r.dir dir).stage k).duration ≤ 255 := by
  obtain ⟨-, -, stages⟩ := h.dir dir
  unfold DirRamp.stage
  cases hk : (r.dir dir).stages[k]? with
  | none => decide
  | some st => exact stages st (Vector.mem_toList_iff.mpr (Vector.mem_of_getElem? hk))

/-- A direction replaced by a legal one leaves a legal ramp. -/
theorem Ramp.Legal.setDir {r : Ramp} (h : r.Legal) (dir : Direction) {d : DirRamp}
    (hd : 1 ≤ d.count ∧ d.count ≤ 4 ∧ ∀ st ∈ d.stages.toList, 1 ≤ st.duration ∧ st.duration ≤ 255) :
    (r.setDir dir d).Legal := by
  have hup := h.dir .up
  have hdown := h.dir .down
  have hneutral := h.dir .neutral
  intro e he
  cases dir <;> simp only [Ramp.setDir, List.mem_cons, List.not_mem_nil, or_false] at he <;>
    rcases he with rfl | rfl | rfl <;> assumption

/-- RAMP clamps what it writes, so a legal ramp stays legal (R133). -/
theorem Ramp.Legal.withStage {r : Ramp} (h : r.Legal) (dir : Direction) (k : Nat)
    (fg bg : StageColour) {duration : Nat} (count : Nat) (hd : duration ≤ 255) :
    (r.setDir dir ((r.dir dir).withStage k ⟨fg, bg, max 1 duration⟩ (min 4 (max 1 count)))).Legal := by
  obtain ⟨-, -, stages⟩ := h.dir dir
  refine h.setDir dir ⟨?_, ?_, fun st hst => ?_⟩
  · simp only [DirRamp.withStage]
    omega
  · simp only [DirRamp.withStage]
    omega
  · rw [DirRamp.withStage, Vector.toList_setIfInBounds] at hst
    rcases List.mem_or_eq_of_mem_set hst with hst | rfl
    · exact stages st hst
    · exact ⟨Nat.le_max_left _ _, Nat.max_le.mpr ⟨by decide, hd⟩⟩

/-! #### Ageing (R77) -/

/-- Everything that becomes of a record at a frame start: the next stage with its duration, or one frame
less. -/
theorem Mark.aged_cases {ramp : Ramp} {m k : Mark} (h : m.aged ramp = some k) :
    (m.stage + 1 < (ramp.dir m.dir).count ∧
      k = { m with stage := m.stage + 1, left := ((ramp.dir m.dir).stage (m.stage + 1)).duration }) ∨
    (2 ≤ m.left ∧ k = { m with left := m.left - 1 }) := by
  simp only [Mark.aged, Mark.nextStage] at h
  split at h
  · simp at h
  · split at h
    · split at h
      · simp at h
      · exact .inl ⟨by omega, by simpa using h.symm⟩
    · exact .inr ⟨by omega, by simpa using h.symm⟩

/-- An aged record covers the cells it covered. -/
theorem Mark.covers_aged {ramp : Ramp} {m k : Mark} (h : m.aged ramp = some k) (a : Nat) :
    k.covers a = m.covers a := by
  rcases Mark.aged_cases h with ⟨-, rfl⟩ | ⟨-, rfl⟩ <;> rfl

theorem Mark.Legal.aged {ramp : Ramp} {m k : Mark} (hm : m.Legal) (hr : ramp.Legal)
    (h : m.aged ramp = some k) : k.Legal := by
  obtain ⟨cells, stage, -, left⟩ := hm
  rcases Mark.aged_cases h with ⟨hstage, rfl⟩ | ⟨hleft, rfl⟩
  · obtain ⟨-, hcount, -⟩ := hr.dir m.dir
    exact ⟨cells, show m.stage + 1 ≤ 3 by omega, hr.duration m.dir (m.stage + 1)⟩
  · exact ⟨cells, stage, show 1 ≤ m.left - 1 by omega, show m.left - 1 ≤ 255 by omega⟩

/-- Ageing by a legal ramp keeps the table in good order. -/
theorem TableLegal.aged (h : TableLegal marks) {ramp : Ramp} (hr : ramp.Legal) :
    TableLegal (marks.filterMap (Mark.aged ramp)) where
  length := (List.length_filterMap_le _ _).trans h.length
  apart := List.pairwise_filterMap.mpr (h.apart.imp fun {m n} hmn k hk l hl a => by
    rw [Mark.covers_aged hk, Mark.covers_aged hl]
    exact hmn a)
  legal := fun k hk => by
    obtain ⟨m, hm, he⟩ := List.mem_filterMap.mp hk
    exact (h.legal m hm).aged hr he

/-! #### The mark event (R73, R74) -/

/-- A record that does not meet a run of cells covers none of them. -/
theorem Mark.not_covers_of_not_meets {m : Mark} {a n b : Nat} (h : m.meets a n = false)
    (hlow : a ≤ b) (hhigh : b < a + n) : m.covers b = false := by
  simp only [Mark.meets, Mark.covers, Bool.and_eq_false_iff, decide_eq_false_iff_not] at h ⊢
  omega

/-- A new record inside the field that its event clears joins a table in good order. -/
theorem TableLegal.recordMark (h : TableLegal marks) {m : Mark} {a n : Nat} (hm : m.Legal)
    (hlow : a ≤ m.start) (hhigh : m.start + m.length ≤ a + n) :
    TableLegal (recordMark marks a n m) where
  length := recordMark_length marks a n m h.length
  apart := by
    have field : TableLegal (marks.filter fun r => !r.meets a n) := h.sublist List.filter_sublist
    simp only [Machine.recordMark]
    refine List.pairwise_append.mpr ⟨?_, List.pairwise_singleton _ _, fun r hr k hk b => ?_⟩
    · split
      · exact field.apart.sublist (List.tail_sublist _)
      · exact field.apart
    · rw [List.mem_singleton.mp hk]
      have outside : r.meets a n = false := by
        have kept : r ∈ marks.filter fun r => !r.meets a n := by
          split at hr
          · exact List.mem_of_mem_tail hr
          · exact hr
        simpa using (List.mem_filter.mp kept).2
      rintro ⟨hrb, hmb⟩
      obtain ⟨hb, hb'⟩ := (Mark.covers_iff m b).mp hmb
      rw [Mark.not_covers_of_not_meets outside (by omega) (by omega)] at hrb
      simp at hrb
  legal := fun k hk => by
    rcases mem_recordMark hk with rfl | ⟨hk, -⟩
    · exact hm
    · exact h.legal k hk

/-- Texts that differ, the old one no longer than the new, change at a position of the new one (R68). -/
theorem firstChange_lt : ∀ {old new : List Code}, old ≠ new → old.length ≤ new.length →
    firstChange old new < new.length
  | [], [], h, _ => absurd rfl h
  | [], _ :: _, _, _ => by simp [firstChange]
  | _ :: _, [], _, hl => by simp at hl
  | o :: os, n :: ns, h, hl => by
    unfold firstChange
    split
    · rename_i hon
      have := firstChange_lt (old := os) (new := ns) (fun e => h (by rw [hon, e])) (by simpa using hl)
      simpa using this
    · simp

theorem judge_self (old : List Code) : judge old old = none := if_pos rfl

/-- The record a TICK makes over a field of the plane is legal, and lies in the field (R69, R74). -/
theorem newMark_legal {ramp : Ramp} (hr : ramp.Legal) {a : Nat} {old new : List Code}
    {dir : Direction} (digit : Bool) (hne : old ≠ new) (hold : old.length ≤ new.length)
    (hlen : new.length ≤ 16) (ha : a + new.length ≤ Config.planeSize) :
    (newMark ramp a old new dir digit).Legal ∧ a ≤ (newMark ramp a old new dir digit).start ∧
      (newMark ramp a old new dir digit).start + (newMark ramp a old new dir digit).length =
        a + new.length := by
  have first : (if digit then firstChange old new else 0) < new.length := by
    have change := firstChange_lt hne hold
    split <;> omega
  obtain ⟨hleft, hleft'⟩ := hr.duration dir 0
  simp only [newMark, Mark.Legal]
  exact ⟨⟨⟨by omega, by omega, by omega⟩, by omega, hleft, hleft'⟩, by omega, by omega⟩

end Sys2Proof.Machine
end

section
/-! ### The law of the mark table is kept by every step (R58, R61, R71-R73, R132) -/

namespace Sys2Proof.Machine

variable {s t : State}

/-! #### What the words of a command bound -/

/-- A TICK has at most 16 codes, and a RAMP a duration of eight bits (R206, R207). -/
def Command.TickFits (c : Command) : Prop :=
  (∀ p row col codes digit arrow, c = .tick p row col codes digit arrow → codes.length ≤ 16) ∧
    ∀ dir stage fg bg duration count, c = .ramp dir stage fg bg duration count → duration ≤ 255

/-- A command that words carry fits: R206 allows a TICK at most 19 words, and the duration's field has
eight bits. -/
theorem decodeCommand_tickFits {ws : List Word} {c : Command} (h : decodeCommand ws = some c) :
    Command.TickFits c := by
  unfold decodeCommand at h
  split at h
  · simp at h
  · split at h
    · simp at h
    · rename_i hcount
      constructor
      · rintro p row col codes digit arrow rfl
        simp only [decodeArguments] at h
        split at h
        all_goals try (split at h)
        all_goals simp_all
        obtain ⟨-, hcount⟩ := hcount
        obtain ⟨-, -, -, rfl, -⟩ := h
        simp [countAllowed, codeRow, serviceRows, engineRows] at hcount
        rw [List.length_map]
        omega
      · rintro dir stage fg bg duration count rfl
        simp only [decodeArguments] at h
        split at h
        all_goals try (split at h)
        all_goals simp_all
        obtain ⟨-, -, -, -, rfl, -⟩ := h
        exact Nat.le_of_lt_succ (Nat.mod_lt _ (by decide))

/-! #### The field of a TICK in flight (R58, R61) -/

/-- With these old codes read, the reads left are as many as the mark event's field still lacks. -/
def ReadsField (old : List Code) (todo : List Micro) : Prop :=
  ∀ col row new digit, .markEvent col row new digit ∈ todo →
    new.length ≤ 16 ∧ old.length + (todo.filter Micro.readsOld).length = new.length

/-- Steps without a mark event have no field to read. -/
theorem ReadsField.of_not_mem {old : List Code} {todo : List Micro}
    (h : ∀ col row new digit, Micro.markEvent col row new digit ∉ todo) : ReadsField old todo :=
  fun col row new digit hm => absurd hm (h col row new digit)

/-- The steps of a TICK read as many codes as its field has. -/
theorem tickSteps_readsField (row col : Nat) {codes : List Code} (digit arrow : Bool)
    (h : codes.length ≤ 16) : ReadsField [] (tickSteps row col codes digit arrow) := by
  intro c r new d hm
  have hnew : new = codes := by
    simp only [tickSteps, List.mem_append, List.mem_map, List.mem_singleton, reduceCtorEq, and_false,
      exists_false, false_or, Micro.markEvent.injEq] at hm
    rcases hm with ⟨-, -, rfl, -⟩ | hm
    · rfl
    · split at hm <;> simp at hm
  have arrowless : (if arrow && col ≠ 0 then [Micro.arrow (col - 1) row codes] else []).filter
      Micro.readsOld = [] := by
    split <;> rfl
  subst hnew
  refine ⟨h, ?_⟩
  rw [tickSteps, List.filter_append, arrowless]
  simp [List.filter_map, Function.comp_def, Micro.readsOld]

/-- What the first event of a command leaves of the command in flight, none of whose steps was there yet:
the same, or steps that read the field of their mark event. -/
def State.Takes (s t : State) : Prop :=
  t.flight = s.flight ∨
    ∃ todo, t.flight = s.flight.map (fun f => { f with todo := todo }) ∧ ReadsField [] todo

theorem State.Takes.refusing (code : RefusalCode) : s.Takes (s.refusing code) :=
  .inr ⟨[.refuse code], rfl, .of_not_mem (by simp)⟩

theorem State.Takes.takeFlight {x : Port} {cut : Bool} {todo : List Micro} (h : ReadsField [] todo) :
    s.Takes (s.takeFlight x cut todo) :=
  .inr ⟨todo, State.takeFlight_flight s x cut todo, h⟩

/-- Of the commands with steps, TICK alone has a mark event among them. -/
theorem startCommand_takes (x : Port) {c : Command} (hc : Command.TickFits c) (s : State) :
    s.Takes (startCommand x c s) := by
  obtain ⟨hcodes, -⟩ := hc
  cases c <;> simp only [startCommand]
  case tick p row col codes digit arrow =>
    unfold beginTick
    split
    · exact .refusing _
    · exact .takeFlight (tickSteps_readsField row col digit arrow (hcodes _ _ _ _ _ _ rfl))
  case roll p k clear =>
    simp only [beginRoll]
    repeat' split
    all_goals first
      | exact .inl rfl
      | exact .refusing _
      | exact .takeFlight (.of_not_mem (by simp [rollSteps, clearSteps]))
  case log p attr codes =>
    simp only [beginLog]
    repeat' split
    all_goals first
      | exact .refusing _
      | exact .takeFlight (.of_not_mem (by simp [logSteps, clearSteps]))
  case place | sweep | shift | tint | readCells =>
    simp only [beginPlace, beginSweep, beginShift, beginTint, beginReadCells]
    repeat' split
    all_goals first
      | exact .refusing _
      | exact .takeFlight (.of_not_mem (by
          simp [placeSteps, sweepSteps, shiftSteps, tintSteps, readSteps]))
  case readGlyph slotOption slot code =>
    unfold engineReadGlyph
    split
    · exact .refusing _
    · exact .inr ⟨_, rfl, .of_not_mem (by simp)⟩
  all_goals
    simp only [engineDefine, engineShow, engineHide, engineDrop, engineClaim, engineRelease,
      engineRaise, engineLower, engineBehind, engineSetTop, engineWait, engineGlyph, enginePatch,
      enginePatchRows, enginePatchCode, engineUnpatch, enginePalette, engineRamp, engineStaleColour,
      engineBlink, engineCursor, engineTiming, engineLock]
  all_goals repeat' split
  all_goals first
    | exact .inl rfl
    | exact .refusing _

/-- The law of a TICK in flight stays where the command in flight stays or ends. -/
theorem State.TickLaw.congr (hs : s.TickLaw) (h : t.flight = none ∨ t.flight = s.flight) :
    t.TickLaw := fun f hf => by
  rcases h with h | h
  · exact absurd (h.symm.trans hf) (by simp)
  · exact hs f (h ▸ hf)

/-- The first event of a command keeps the law of a TICK in flight, when no step was there before it. -/
theorem State.Takes.tickLaw (h : s.Takes t) (hf : ∀ f, s.flight = some f → f.old = [] ∧ f.todo = []) :
    t.TickLaw := by
  intro g hg
  rcases h with h | ⟨todo, h, hread⟩ <;> rw [h] at hg
  · intro col row new digit hm
    obtain ⟨-, htodo⟩ := hf g hg
    rw [htodo] at hm
    simp at hm
  · obtain ⟨f, hsome, rfl⟩ := Option.map_eq_some_iff.mp hg
    obtain ⟨hold, -⟩ := hf f hsome
    show ReadsField f.old todo
    rwa [hold]

/-! #### The marks and the ramp at the first event of a command -/

/-- The first event of a command leaves the marks, and the displayed ramp. -/
theorem startCommand_marks (x : Port) (c : Command) (s : State) :
    (startCommand x c s).marks = s.marks ∧ (startCommand x c s).shownRamp = s.shownRamp := by
  cases c
  all_goals
    simp only [startCommand, engineDefine, engineShow, engineHide, engineDrop, engineClaim,
      engineRelease, engineRaise, engineLower, engineBehind, engineSetTop, beginRoll, beginLog,
      beginPlace, beginSweep, beginShift, beginTint, beginTick, beginReadCells, engineWait,
      engineGlyph, enginePatch, enginePatchRows, enginePatchCode, engineUnpatch, engineReadGlyph,
      enginePalette, engineRamp, engineStaleColour, engineBlink, engineCursor, engineTiming,
      engineLock]
  all_goals repeat' split
  all_goals simp [State.takeFlight]

/-- The first event of a command leaves the ramp, but RAMP, which leaves it legal. -/
theorem startCommand_ramp (x : Port) {c : Command} (hc : Command.TickFits c) (hs : s.ramp.Legal) :
    (startCommand x c s).ramp.Legal := by
  obtain ⟨-, hduration⟩ := hc
  cases c
  case ramp dir stage fg bg duration count =>
    simp only [startCommand, engineRamp]
    split
    · exact hs
    · split
      · exact hs
      · exact hs.withStage _ _ fg bg count (hduration _ _ _ _ _ _ rfl)
  all_goals
    refine (congrArg Ramp.Legal (?_ : (startCommand x _ s).ramp = s.ramp)).mpr hs
    simp only [startCommand, engineDefine, engineShow, engineHide, engineDrop, engineClaim,
      engineRelease, engineRaise, engineLower, engineBehind, engineSetTop, beginRoll, beginLog,
      beginPlace, beginSweep, beginShift, beginTint, beginTick, beginReadCells, engineWait,
      engineGlyph, enginePatch, enginePatchRows, enginePatchCode, engineUnpatch, engineReadGlyph,
      enginePalette, engineStaleColour, engineBlink, engineCursor, engineTiming, engineLock]
  all_goals repeat' split
  all_goals simp [State.takeFlight]

/-! #### The laws together -/

/-- The laws of the mark table and of a TICK in flight, with the laws under which a TICK stays in its
pane. -/
structure State.TickInsideLaw (s : State) : Prop where
  marks : s.MarkLaw
  tick : s.TickLaw
  inside : s.InsideLaw

/-- A grant keeps the laws: its command's words bound its field and its duration. -/
theorem State.TickInsideLaw.grantTo (hs : s.TickInsideLaw) {x : Port} (hpick : s.arbiterPick = some x) :
    (grantTo x s).TickInsideLaw := by
  have inside := hs.inside.grantTo hpick
  rcases grantTo_cases x s with ⟨-, e⟩ | ⟨w, rest, -, ⟨-, e⟩ | ⟨c, hc, e⟩⟩ <;> rw [e] at inside ⊢
  · exact hs
  · exact ⟨hs.marks.congr rfl rfl rfl, hs.tick.congr (.inr rfl), inside⟩
  · have fits := decodeCommand_tickFits hc
    obtain ⟨u, hu⟩ : ∃ u, u = startCommand x c (s.granted x w rest c) := ⟨_, rfl⟩
    obtain ⟨table, ramp, shown⟩ := State.markLaw_iff.mp hs.marks
    obtain ⟨sameMarks, sameShown⟩ := startCommand_marks x c (s.granted x w rest c)
    have marks : u.MarkLaw := hu ▸ State.markLaw_iff.mpr
      ⟨sameMarks ▸ table, startCommand_ramp x fits ramp, sameShown ▸ shown⟩
    have tick : u.TickLaw := hu ▸ (startCommand_takes x fits _).tickLaw fun f hf => by
      simp only [State.granted_flight, Option.some.injEq] at hf
      exact hf ▸ ⟨rfl, rfl⟩
    refine ⟨?_, ?_, inside⟩ <;> unfold beginCommand <;> rw [← hu] <;>
      rcases State.completeIfDone_cases u x with h | h <;> rw [h]
    · exact marks
    · exact marks.congr rfl rfl rfl
    · exact tick
    · exact tick.congr (.inl rfl)

/-! #### A step of the engine -/

/-- What a step does to the mark table: it removes records, or it is the mark event of a TICK whose texts
differ. -/
theorem Micro.effect_marks (f : Flight) (m : Micro) (s : State) :
    (m.effect f s).marks.Sublist s.marks ∨
      ∃ col row new digit dir, m = .markEvent col row new digit ∧ judge f.old new = some dir ∧
        (m.effect f s).marks = recordMark s.marks ((s.pane f.pane).view.cellAddr col row) new.length
          (newMark s.shownRamp ((s.pane f.pane).view.cellAddr col row) f.old new dir digit) := by
  cases m
  case markEvent col row new digit =>
    cases h : judge f.old new with
    | none => exact .inl (by simp only [effect, h]; exact .refl _)
    | some dir => exact .inr ⟨col, row, new, digit, dir, rfl, h, by simp only [effect, h]⟩
  all_goals refine .inl ?_
  case put | store | arrow =>
    simp only [effect]
    split <;> simp
  all_goals simp [effect]

/-- No step of the engine touches a ramp. -/
theorem Micro.effect_ramps (f : Flight) (m : Micro) (s : State) :
    (m.effect f s).ramp = s.ramp ∧ (m.effect f s).shownRamp = s.shownRamp := by
  cases m <;> simp only [effect]
  case put | store | arrow | markEvent => split <;> exact ⟨rfl, rfl⟩
  all_goals simp

/-- The field of a TICK that fits its pane is a run of cells of the plane (R3, R58). -/
theorem Micro.fits.field_le {r : Pane} {col row : Nat} {new : List Code} {digit : Bool}
    (h : (Micro.markEvent col row new digit).fits r) (hl : r.defined = true → r.view.Legal)
    (hne : new ≠ []) : r.view.cellAddr col row + new.length ≤ Config.planeSize := by
  obtain ⟨hd, hcol, hrow⟩ := h
  have hpos := List.length_pos_iff.mpr hne
  have last := (hl hd).cellAddr_lt_plane (col := col + (new.length - 1)) (by omega) hrow
  simp only [PaneView.cellAddr, PaneView.lineAddr] at last ⊢
  omega

/-- A step of the command in flight keeps the law of the mark table: the mark event's new record lies in
its field, which is in the plane (R73, R74). -/
theorem State.TickInsideLaw.effect (hs : s.TickInsideLaw) {f : Flight} {m : Micro}
    (hf : s.flight = some f) (hm : m ∈ f.todo) : (m.effect f s).MarkLaw := by
  obtain ⟨ramp, shown⟩ := m.effect_ramps f s
  rcases m.effect_marks f s with hmarks | ⟨col, row, new, digit, dir, rfl, hjudge, hmarks⟩
  · exact hs.marks.of_sublist hmarks ramp shown
  · obtain ⟨table, rampLegal, shownLegal⟩ := State.markLaw_iff.mp hs.marks
    obtain ⟨hlen, hold⟩ := hs.tick f hf col row new digit hm
    have differ : f.old ≠ new := fun e => by rw [e, judge_self] at hjudge; simp at hjudge
    have filled : new ≠ [] := by
      rintro rfl
      exact differ (List.eq_nil_of_length_eq_zero (Nat.eq_zero_of_add_eq_zero_right hold))
    obtain ⟨⟨geometry, -⟩, fits⟩ := hs.inside
    have field := (fits f hf _ hm).field_le (geometry f.pane) filled
    obtain ⟨legal, hlow, hhigh⟩ :=
      newMark_legal shownLegal (dir := dir) digit differ (by omega) hlen field
    refine State.markLaw_iff.mpr ⟨?_, ramp ▸ rampLegal, shown ▸ shownLegal⟩
    rw [hmarks]
    exact table.recordMark legal hlow hhigh.le

/-- A read of an old code joins the codes read, and every other step leaves them. -/
theorem Micro.progress_old_length (f : Flight) (m : Micro) (s : State) :
    (m.progress f s).old.length = f.old.length + ([m].filter Micro.readsOld).length := by
  cases m <;> simp [progress, readsOld, List.filter]

/-- What is left behind a step, but for an idle mark event, holds the same reads. -/
theorem dropIdleMark_reads (old : List Code) (todo : List Micro) :
    (dropIdleMark old todo).filter Micro.readsOld = todo.filter Micro.readsOld := by
  unfold dropIdleMark
  split
  · split <;> rfl
  · rfl

/-- A step done leaves the reads that the field of its TICK still lacks. -/
theorem ReadsField.progress {f : Flight} {m : Micro} {rest : List Micro}
    (h : ReadsField f.old (m :: rest)) (s : State) :
    ReadsField (m.progress f s).old (dropIdleMark (m.progress f s).old rest) := by
  intro col row new digit hm
  obtain ⟨hlen, hcount⟩ :=
    h col row new digit (List.mem_cons_of_mem _ (mem_of_mem_dropIdleMark hm))
  refine ⟨hlen, ?_⟩
  rw [← List.singleton_append, List.filter_append, List.length_append] at hcount
  rw [dropIdleMark_reads, Micro.progress_old_length]
  omega

theorem State.TickInsideLaw.engineStep (hs : s.TickInsideLaw) (h : engineStep s = .next t) :
    t.TickInsideLaw := by
  have inside := hs.inside.engineStep h
  rcases engineStep_next h with ⟨-, rfl⟩ | ⟨f, -, -, rfl⟩ | ⟨f, m, rest, hf, ht, -, rfl⟩
  · exact hs
  · exact ⟨hs.marks.congr rfl rfl rfl, hs.tick.congr (.inl rfl), inside⟩
  · have done := hs.effect hf (m := m) (by rw [ht]; exact List.mem_cons_self)
    have reads : ReadsField f.old (m :: rest) := ht ▸ hs.tick f hf
    simp only [State.stepDone] at inside ⊢
    split <;> rename_i hempty
    · rw [if_pos hempty] at inside
      exact ⟨done.congr rfl rfl rfl, fun g hg => absurd hg (by simp), inside⟩
    · rw [if_neg hempty] at inside
      refine ⟨done.congr rfl rfl rfl, fun g hg => ?_, inside⟩
      simp only [Option.some.injEq] at hg
      exact hg ▸ reads.progress s

/-! #### The frame start and the resets -/

/-- A frame start ages the marks by one of the two ramps, latches the ramp, and leaves the command in
flight (R77, R78, R131). -/
theorem State.frameStart_marks (s : State) (o : LatchOrder) :
    (s.frameStart o).marks =
        s.marks.filterMap (Mark.aged (if o = .latchFirst then s.ramp else s.shownRamp)) ∧
      (s.frameStart o).ramp = s.ramp ∧ (s.frameStart o).shownRamp = s.ramp := by
  cases o <;>
    simp [State.frameStart, State.latchPanes, State.latchAndAge, State.latchColours,
      State.ageMarks, State.latchCursor, State.blinkFrame, State.clearWaiting, State.latchTiming,
      State.countFrame]

theorem State.MarkLaw.frameStart (hs : s.MarkLaw) (o : LatchOrder) : (s.frameStart o).MarkLaw := by
  obtain ⟨table, ramp, shown⟩ := State.markLaw_iff.mp hs
  obtain ⟨marks, sameRamp, sameShown⟩ := s.frameStart_marks o
  refine State.markLaw_iff.mpr ⟨marks ▸ table.aged ?_, sameRamp ▸ ramp, sameShown ▸ ramp⟩
  split
  · exact ramp
  · exact shown

/-- Power-on reset leaves the table empty and both ramps as R132 lists them. -/
theorem onPowerOnReset_markLaw (osel tsel : Fin 4) (s : State) :
    (onPowerOnReset osel tsel s).MarkLaw := by
  have ramp : Ramp.atReset.Legal := by decide
  exact State.markLaw_iff.mpr ⟨⟨Nat.zero_le _, .nil, by simp [onPowerOnReset, State.reset]⟩, ramp, ramp⟩

/-- The stop of a port's command removes at most the marks over the cell that a SHIFT writes (R75, R108). -/
theorem State.MarkLaw.abortFlight (hs : s.MarkLaw) (x : Port) : (s.abortFlight x).MarkLaw := by
  unfold State.abortFlight
  split
  · exact hs
  · rename_i f _
    split
    · exact hs
    · split
      · rename_i col row _ _
        have kept : ((Micro.store col row).effect f s).marks.Sublist s.marks := by
          rcases (Micro.store col row).effect_marks f s with h | ⟨_, _, _, _, _, h, -⟩
          · exact h
          · simp at h
        obtain ⟨ramp, shown⟩ := (Micro.store col row).effect_ramps f s
        split
        · exact hs.of_sublist kept ramp shown
        · exact hs.congr rfl rfl rfl
      · exact hs.congr rfl rfl rfl

/-- A port reset keeps the law of the mark table. -/
theorem State.MarkLaw.portReset (hs : s.MarkLaw) (x : Port) :
    (((s.abortFlight x).dropCursor x).releaseAll x).MarkLaw := by
  have dropped : ((s.abortFlight x).dropCursor x).MarkLaw := by
    unfold State.dropCursor
    split
    · exact (hs.abortFlight x).congr rfl rfl rfl
    · exact hs.abortFlight x
  exact dropped.congr rfl rfl rfl

theorem State.TickInsideLaw.portReset (hs : s.TickInsideLaw) (x : Port) :
    (((s.abortFlight x).dropCursor x).releaseAll x).TickInsideLaw := by
  obtain ⟨-, -, stopped⟩ := s.abortFlight_frame x
  obtain ⟨-, -, dropped⟩ := (s.abortFlight x).dropCursor_frame x
  exact ⟨hs.marks.portReset x, hs.tick.congr (by rw [← dropped] at stopped; exact stopped),
    hs.inside.portReset x⟩

/-- The laws together are a law of the stores. -/
theorem tickInsideLaw_storeLaw : StoreLaw State.TickInsideLaw where
  lines := fun _ _ _ _ _ _ hs => ⟨hs.marks, hs.tick, hs.inside⟩
  grant := fun _ _ hs hpick => hs.grantTo hpick
  engine := fun _ _ hs h => hs.engineStep h
  powerOn := fun osel tsel s _ => ⟨onPowerOnReset_markLaw osel tsel s,
    fun f hf => absurd hf (by simp [onPowerOnReset, State.reset]), onPowerOnReset_insideLaw osel tsel s⟩
  endFlight := fun _ hs => ⟨hs.marks, hs.tick.congr (.inl rfl), insideLaw_storeLaw.endFlight _ hs.inside⟩
  clearPlane := fun _ hs => ⟨hs.marks, hs.tick, hs.inside⟩
  frame := fun o s hs => by
    obtain ⟨-, flight, -, -⟩ := s.frameStart_stores o
    exact ⟨hs.marks.frameStart o, hs.tick.congr (.inr flight), hs.inside.frameStart o⟩
  portReset := fun x _ hs => hs.portReset x

/-- Settles O56: with the laws of the panes and the command in flight, the law of the mark table and that of
a TICK in flight are a law of the stores. -/
theorem stepKeepsTheMarkTable : Obligations.StepKeepsTheMarkTable :=
  fun _ _ hmarks htick hgeometry hflight h =>
    let laws := tickInsideLaw_storeLaw.step ⟨hmarks, htick, hgeometry, hflight⟩ h
    ⟨laws.marks, laws.tick⟩

end Sys2Proof.Machine
end

section
/-! ### MARK_STAGE_EXPIRY and BLINK_TOGGLE (R77, R137, R152) -/

namespace Sys2Proof.Machine

variable {s : State} {place : Nat} {m : Mark}

/-- While frames run, FRAME_START is a frame start; otherwise there is none (R152). -/
theorem onFrameStart_running (h : s.framesRun = true) (o : LatchOrder) :
    onFrameStart o s = s.frameStart o := if_pos h

theorem onFrameStart_stopped (h : s.framesRun = false) (o : LatchOrder) : onFrameStart o s = s :=
  if_neg (by simp [h])

/-- MARK_STAGE_EXPIRY is FRAME_START where the record at its place is in the last frame of its stage. -/
theorem onStageExpiry_due (hm : s.marks[place]? = some m) (hdue : m.left ≤ 1) :
    onStageExpiry place s = onFrameStart s.freeOrder s := by
  simp only [onStageExpiry, hm, if_pos hdue]

/-- Where it is not due, or no frames run, it is no event (log 4). -/
theorem onStageExpiry_idle
    (h : s.framesRun = false ∨ ∀ m, s.marks[place]? = some m → 1 < m.left) :
    onStageExpiry place s = s := by
  unfold onStageExpiry
  split
  · rename_i m hm
    split
    · rename_i hdue
      exact onFrameStart_stopped (h.resolve_right fun later => absurd (later m hm) (by omega)) _
    · rfl
  · rfl

/-- BLINK_TOGGLE is FRAME_START where the counter reaches half the period, and else no event (log 4). -/
theorem onBlinkToggle_due (h : s.blink.counter + 1 = s.blink.latch / 2) :
    onBlinkToggle s = onFrameStart s.freeOrder s := if_pos h

theorem onBlinkToggle_idle
    (h : s.framesRun = false ∨ s.blink.counter + 1 ≠ s.blink.latch / 2) : onBlinkToggle s = s := by
  unfold onBlinkToggle
  split
  · rename_i hdue
    exact onFrameStart_stopped (h.resolve_right (not_not.mpr hdue)) _
  · rfl

/-- A record in the last frame of its stage gets the next stage, or goes after its ramp's last (R77). -/
theorem Mark.aged_due (ramp : Ramp) (h : m.left ≤ 1) :
    (m.aged ramp).toList = if (ramp.dir m.dir).count ≤ m.stage + 1 then []
      else [{ m with
        stage := m.stage + 1, left := ((ramp.dir m.dir).stage (m.stage + 1)).duration }] := by
  have last : m.left - 1 = 0 := by omega
  simp only [Mark.aged, Mark.nextStage, last, if_true]
  split
  · rw [if_pos (by omega)]
    rfl
  · split <;> rfl

/-- Ageing takes the records one by one, those ahead of a place, the one there and those behind it. -/
theorem filterMap_at {α β : Type} (f : α → Option β) {l : List α} {k : Nat} {a : α}
    (h : l[k]? = some a) :
    l.filterMap f =
      (l.take k).filterMap f ++ (f a).toList ++ (l.drop (k + 1)).filterMap f := by
  obtain ⟨hk, rfl⟩ := List.getElem?_eq_some_iff.mp h
  have split : l = l.take k ++ l[k] :: l.drop (k + 1) := by
    rw [← List.drop_eq_getElem_cons, List.take_append_drop]
  conv_lhs => rw [split]
  rw [List.filterMap_append, List.filterMap_cons, List.append_assoc]
  cases f l[k] <;> rfl

/-- The blink timer takes its own action at a frame start (R137, R152). -/
theorem State.frameStart_blink (s : State) (o : LatchOrder) :
    (s.frameStart o).blink = s.blink.frame := by
  cases o <;>
    simp only [State.frameStart, State.latchPanes, State.latchAndAge, State.latchColours,
      State.ageMarks, State.latchCursor, State.blinkFrame, State.clearWaiting, State.latchTiming,
      State.countFrame]

/-! #### The rows -/

theorem exec_markStageExpiry {t : State} (h : onStageExpiry place s = t) :
    exec (.markStageExpiry place) s = .next t.arbitrate := h ▸ rfl

theorem exec_blinkToggle {t : State} (h : onBlinkToggle s = t) :
    exec .blinkToggle s = .next t.arbitrate := h ▸ rfl

theorem exec_frameStart_running (h : s.framesRun = true) (o : LatchOrder) :
    exec (.frameStart o) s = .next (s.frameStart o).arbitrate := onFrameStart_running h o ▸ rfl

/-- Settles O10: each row that is due is the frame start of the free order, and the record named ages as one
at its stage's end. -/
theorem stageExpiryAndToggle : Obligations.StageExpiryAndToggle := by
  refine ⟨⟨fun o s place m ramp hrun hm hdue ho hramp => ?_, fun o s hrun hdue ho => ?_⟩,
    fun s place h => exec_markStageExpiry (onStageExpiry_idle h),
    fun s h => exec_blinkToggle (onBlinkToggle_idle h)⟩
  · subst ho
    have row := exec_markStageExpiry ((onStageExpiry_due hm hdue).trans (onFrameStart_running hrun _))
    obtain ⟨marks, -, -⟩ := s.frameStart_marks s.freeOrder
    refine ⟨row.trans (exec_frameStart_running hrun _).symm, row, ?_⟩
    rw [marks, ← hramp, filterMap_at _ hm, Mark.aged_due ramp hdue]
  · subst ho
    have row := exec_blinkToggle ((onBlinkToggle_due hdue).trans (onFrameStart_running hrun _))
    refine ⟨row.trans (exec_frameStart_running hrun _).symm, row, ?_⟩
    rw [State.frameStart_blink, BlinkTimer.frame, if_pos hdue]
    rfl

end Sys2Proof.Machine
end

section
/-! ### A run of frame starts, and the life of a mark (R74, R77) -/

namespace Sys2Proof.Machine

variable {s t : State}

/-! #### Frame starts one after another -/

/-- Frames run from a state, with one ramp in force, one preset, and no command that could begin. -/
structure State.Steady (s : State) : Prop where
  runs : s.framesRun = true
  ramp : s.shownRamp = s.ramp
  preset : s.timing.preset = s.shownTiming.preset
  quiet : s.flight ≠ none ∨ ∀ x, (s.port x).queue = []

/-- The arbiter has nobody to grant while a command is in flight or every queue is empty. -/
theorem State.arbitrate_quiet (h : s.flight ≠ none ∨ ∀ x, (s.port x).queue = []) : s.arbitrate = s :=
  State.arbitrate_of_none (State.arbiterPick_eq_none (h.imp_right fun empty x =>
    State.eligible_of_queue_nil (empty x)))

/-- A frame start at which the preset stays leaves the clock, the phase, the timing and the queues. -/
theorem State.frameStart_raster (h : s.timing.preset = s.shownTiming.preset) (o : LatchOrder) :
    (s.frameStart o).phase = s.phase ∧ (s.frameStart o).clock = s.clock ∧
      (s.frameStart o).timing = s.timing ∧ (s.frameStart o).shownTiming = s.timing ∧
      ∀ x, ((s.frameStart o).port x).queue = (s.port x).queue := by
  cases o <;>
    simp [State.frameStart, State.latchPanes, State.latchAndAge, State.latchColours,
      State.ageMarks, State.latchCursor, State.blinkFrame, State.clearWaiting, State.latchTiming,
      State.countFrame, State.port, h]

/-- A frame start goes on to another such state (R151-R153). -/
theorem State.Steady.frameStart (h : s.Steady) (o : LatchOrder) : (s.frameStart o).Steady := by
  obtain ⟨phase, clock, timing, shownTiming, queue⟩ := State.frameStart_raster h.preset o
  obtain ⟨-, ramp, shownRamp⟩ := s.frameStart_marks o
  obtain ⟨-, flight, -, -⟩ := s.frameStart_stores o
  refine ⟨?_, shownRamp.trans ramp.symm, by rw [timing, shownTiming], ?_⟩
  · rw [State.framesRun, clock, phase]
    exact h.runs
  · simpa only [flight, queue] using h.quiet

/-- FRAME_START there is the frame start alone. -/
theorem State.Steady.exec_frameStart (h : s.Steady) (o : LatchOrder) :
    exec (.frameStart o) s = .next (s.frameStart o) := by
  rw [exec_frameStart_running h.runs, State.arbitrate_quiet (h.frameStart o).quiet]

/-- The records aged at `n` frame starts by one ramp. -/
def ageRun (ramp : Ramp) : Nat → List Mark → List Mark
  | 0, marks => marks
  | n + 1, marks => ageRun ramp n (marks.filterMap (Mark.aged ramp))

/-- A run of frame starts ages the marks at each of them. -/
theorem State.Steady.run (h : s.Steady) (o : LatchOrder) (n : Nat) :
    ∃ t, runEvents (List.replicate n (.frameStart o)) s = .next t ∧
      t.marks = ageRun s.ramp n s.marks := by
  induction n generalizing s with
  | zero => exact ⟨s, rfl, rfl⟩
  | succ n ih =>
    obtain ⟨marks, ramp, -⟩ := s.frameStart_marks o
    obtain ⟨t, run, aged⟩ := ih (h.frameStart o)
    refine ⟨t, (runEvents_cons (h.exec_frameStart o)).trans run, ?_⟩
    rw [aged, marks, ramp, h.ramp, ite_self]
    rfl

/-! #### Each record ages by itself -/

theorem ageRun_append (ramp : Ramp) (n : Nat) (front back : List Mark) :
    ageRun ramp n (front ++ back) = ageRun ramp n front ++ ageRun ramp n back := by
  induction n generalizing front back with
  | zero => rfl
  | succ n ih => rw [ageRun, List.filterMap_append, ih]; rfl

/-- The last of some frame starts ages what the others leave. -/
theorem ageRun_succ (ramp : Ramp) (n : Nat) (marks : List Mark) :
    ageRun ramp (n + 1) marks = (ageRun ramp n marks).filterMap (Mark.aged ramp) := by
  induction n generalizing marks with
  | zero => rfl
  | succ n ih => rw [ageRun, ih]; rfl

/-- A record that stands alone is aged at the next frame start. -/
theorem ageRun_succ_of_one {ramp : Ramp} {n : Nat} {marks : List Mark} {m : Mark}
    (h : ageRun ramp n marks = [m]) : ageRun ramp (n + 1) marks = (m.aged ramp).toList := by
  rw [ageRun_succ, h, List.filterMap_cons]
  cases m.aged ramp <;> rfl

theorem DirRamp.lifetime_succ (d : DirRamp) (k : Nat) :
    d.lifetime (k + 1) = d.lifetime k + (d.stage k).duration := by
  simp [DirRamp.lifetime, List.range_succ]

/-- A stage of a legal ramp lasts at least one frame. -/
theorem Ramp.Legal.lifetime_lt {ramp : Ramp} (h : ramp.Legal) (dir : Direction) (k : Nat) :
    (ramp.dir dir).lifetime k < (ramp.dir dir).lifetime (k + 1) := by
  obtain ⟨first, -⟩ := h.duration dir k
  rw [DirRamp.lifetime_succ]
  omega

/-- A record in stage `k` of its ramp, `n` frame starts after it was made. -/
def Mark.inStage (m : Mark) (d : DirRamp) (k n : Nat) : Mark :=
  { m with stage := k, left := d.lifetime (k + 1) - n }

/-- A record is made in stage 0, with that stage's frames to come (R74). -/
theorem Mark.inStage_made {m : Mark} {d : DirRamp} (hstage : m.stage = 0)
    (hleft : m.left = (d.stage 0).duration) : m.inStage d 0 0 = m := by
  obtain ⟨start, length, dir, stage, left⟩ := m
  subst hstage hleft
  simp [Mark.inStage, DirRamp.lifetime]

section Life

variable {ramp : Ramp} {m : Mark} {k n : Nat} (hk : k < (ramp.dir m.dir).count)

include hk

/-- A record with more than one frame left in its stage stays in it. -/
theorem Mark.aged_inStage (hn : n + 1 < (ramp.dir m.dir).lifetime (k + 1)) :
    (m.inStage (ramp.dir m.dir) k n).aged ramp = some (m.inStage (ramp.dir m.dir) k (n + 1)) := by
  have more : ¬ (ramp.dir m.dir).lifetime (k + 1) - (n + 1) = 0 := by omega
  simp only [Mark.aged, Mark.inStage, if_neg (Nat.not_le.mpr hk), Nat.sub_sub, if_neg more]

/-- A record at the end of its stage goes on to the next one, or goes after the last (R77). -/
theorem Mark.aged_stageEnd (hn : n + 1 = (ramp.dir m.dir).lifetime (k + 1)) :
    (m.inStage (ramp.dir m.dir) k n).aged ramp =
      if (ramp.dir m.dir).count ≤ k + 1 then none
      else some (m.inStage (ramp.dir m.dir) (k + 1) (n + 1)) := by
  have last : (ramp.dir m.dir).lifetime (k + 1) - n - 1 = 0 := by omega
  have whole : (ramp.dir m.dir).lifetime (k + 1 + 1) - (n + 1) =
      ((ramp.dir m.dir).stage (k + 1)).duration := by
    rw [DirRamp.lifetime_succ _ (k + 1), ← hn, Nat.add_sub_cancel_left]
  simp only [Mark.aged, Mark.nextStage, Mark.inStage, if_neg (Nat.not_le.mpr hk), last, if_true, whole] <;>
    rfl

end Life

/-- A record made in stage 0 is, after `n` frame starts, in the stage in whose frames `n` falls, and gone
once every stage has had its frames (R77). -/
theorem ageRun_life {ramp : Ramp} (hr : ramp.Legal) {m : Mark} (hstage : m.stage = 0)
    (hleft : m.left = ((ramp.dir m.dir).stage 0).duration) (n : Nat) :
    (∀ k, k < (ramp.dir m.dir).count → (ramp.dir m.dir).lifetime k ≤ n →
      n < (ramp.dir m.dir).lifetime (k + 1) →
        ageRun ramp n [m] = [m.inStage (ramp.dir m.dir) k n]) ∧
    ((ramp.dir m.dir).lifetime (ramp.dir m.dir).count ≤ n → ageRun ramp n [m] = []) := by
  have longer := hr.lifetime_lt m.dir
  obtain ⟨hcount, -, -⟩ := hr.dir m.dir
  obtain ⟨c, hc⟩ := Nat.exists_eq_add_one.mpr hcount
  induction n with
  | zero =>
    refine ⟨fun k hk hlow hhigh => ?_, fun hlow => ?_⟩
    · cases k with
      | zero => rw [Mark.inStage_made hstage hleft, ageRun]
      | succ k =>
        have := longer k
        omega
    · have := longer c
      rw [hc] at hlow
      omega
  | succ n ih =>
    obtain ⟨shows, gone⟩ := ih
    refine ⟨fun k hk hlow hhigh => ?_, fun hlow => ?_⟩
    · rcases Nat.lt_or_eq_of_le hlow with hin | hend
      · rw [ageRun_succ_of_one (shows k hk (by omega) (by omega)), Mark.aged_inStage hk hhigh]
        rfl
      · cases k with
        | zero => simp [DirRamp.lifetime] at hend
        | succ k =>
          have := longer k
          rw [ageRun_succ_of_one (shows k (by omega) (by omega) (by omega)),
            Mark.aged_stageEnd (by omega) hend.symm, if_neg (by omega)]
          rfl
    · rcases Nat.lt_or_eq_of_le hlow with hin | hend
      · rw [ageRun_succ, gone (by omega)]
        rfl
      · have := longer c
        rw [hc] at hend
        rw [ageRun_succ_of_one (shows c (by omega) (by omega) (by omega)),
          Mark.aged_stageEnd (by omega) hend.symm, if_pos (by omega)]
        rfl

/-- Settles O8: the records age one by one, so the run ages those before and behind the new one as it would
without it, and the new one lives as its ramp says. -/
theorem markShowsEachStageForItsDuration : Obligations.MarkShowsEachStageForItsDuration := by
  intro s o m front back n hrun hmarks hstage hleft hlegal hramp hpreset hquiet
  have steady : ∀ marks, ({ s with marks := marks } : State).Steady := fun _ =>
    ⟨hrun, hramp, hpreset, hquiet⟩
  obtain ⟨t, run, aged⟩ := (steady s.marks).run o n
  obtain ⟨tf, runFront, agedFront⟩ := (steady front).run o n
  obtain ⟨tb, runBack, agedBack⟩ := (steady back).run o n
  have parts : t.marks = tf.marks ++ (ageRun s.ramp n [m] ++ tb.marks) := by
    rw [aged, agedFront, agedBack, ← ageRun_append, ← ageRun_append]
    exact congrArg _ hmarks
  obtain ⟨shows, gone⟩ := ageRun_life hlegal hstage hleft n
  refine ⟨t, tf, tb, run, runFront, runBack, fun k hk hlow hhigh => ?_, fun hlow => ?_⟩
  · rw [parts, shows k hk hlow hhigh]
    rfl
  · rw [parts, gone hlow, List.nil_append]

end Sys2Proof.Machine
end

section
/-! ### The judgment of a TICK (R64-R66, R68) -/

namespace Sys2Proof.Machine

/-- With two numbers the judgment is the comparison of their values at one scale (R66). -/
theorem judge_of_numbers {old new : List Code} {o n : Int × Nat} (hne : old ≠ new)
    (ho : parsePrice (old.map Fin.val) = some o) (hn : parsePrice (new.map Fin.val) = some n) :
    judge old new =
      if o.1 * 10 ^ (n.2 - o.2) < n.1 * 10 ^ (o.2 - n.2) then some .up
      else if n.1 * 10 ^ (o.2 - n.2) < o.1 * 10 ^ (n.2 - o.2) then some .down else none := by
  simp only [judge, if_neg hne, ho, hn, aligned] <;> rfl

/-- Without two numbers, texts that differ are judged NEUTRAL (R65). -/
theorem judge_of_nan {old new : List Code} (hne : old ≠ new)
    (h : parsePrice (old.map Fin.val) = none ∨ parsePrice (new.map Fin.val) = none) :
    judge old new = some .neutral := by
  simp only [judge, if_neg hne]
  rcases h with h | h
  · rw [h]
  · rw [h]
    cases parsePrice (old.map Fin.val) <;> rfl

/-- The first changed position: the texts agree ahead of it, and differ there (R68). -/
theorem firstChange_spec : ∀ {old new : List Code}, old.length = new.length → old ≠ new →
    old.take (firstChange old new) = new.take (firstChange old new) ∧
      old[firstChange old new]? ≠ new[firstChange old new]?
  | [], [], _, h => absurd rfl h
  | [], _ :: _, hl, _ => by simp at hl
  | _ :: _, [], hl, _ => by simp at hl
  | o :: os, n :: ns, hl, h => by
    unfold firstChange
    split
    · rename_i hon
      subst hon
      obtain ⟨same, differ⟩ :=
        firstChange_spec (old := os) (new := ns) (by simpa using hl) fun e => h (by rw [e])
      exact ⟨by rw [List.take_succ_cons, List.take_succ_cons, same], by simpa using differ⟩
    · rename_i hon
      exact ⟨rfl, by simpa using hon⟩

/-- Settles O42: the judgment's cases, the scales compared at the greater of the two. -/
theorem judgmentOfTheTwoTexts : Obligations.JudgmentOfTheTwoTexts := by
  refine ⟨judge_self, fun old new hne h => judge_of_nan hne h,
    fun old new mo mn qo qn q hne ho hn hq => ?_, fun old new hl hne => firstChange_spec hl hne⟩
  have scaleOld : q - qo = qn - qo := by omega
  have scaleNew : q - qn = qo - qn := by omega
  rw [judge_of_numbers hne ho hn, scaleOld, scaleNew]
  generalize mo * 10 ^ (qn - qo) = a
  generalize mn * 10 ^ (qo - qn) = b
  rcases lt_trichotomy a b with h | h | h
  · simp [h, h.not_gt, h.ne]
  · simp [h]
  · simp [h, h.not_gt, h.ne']

end Sys2Proof.Machine
end

section
/-! ### A text as a price (R62, R63) -/

namespace Sys2Proof.Machine

/-! #### Spaces at both ends -/

theorem dropWhile_spaces {l : List Nat} (h : ∀ c ∈ l, c ≠ 32) (b : Nat) :
    (List.replicate b 32 ++ l).dropWhile (fun c => decide (c = 32)) = l := by
  rw [List.dropWhile_append_of_pos (by simp), List.dropWhile_eq_self_iff]
  intro hl
  simpa using h _ (List.getElem_mem hl)

/-- A text without spaces is what is left of it between spaces (R62). -/
theorem trim_between_spaces {text : List Nat} (h : ∀ c ∈ text, c ≠ 32) (a b : Nat) :
    trim (List.replicate a 32 ++ text ++ List.replicate b 32) = text := by
  have front : (List.replicate a 32 ++ text ++ List.replicate b 32).dropWhile
      (fun c => decide (c = 32)) = if text = [] then [] else text ++ List.replicate b 32 := by
    rw [List.append_assoc, List.dropWhile_append_of_pos (by simp)]
    cases text with
    | nil => simp
    | cons c rest => simp [h c List.mem_cons_self]
  rw [trim, front]
  split
  · rename_i hnil
    simp [hnil]
  · rw [List.reverse_append, List.reverse_replicate, dropWhile_spaces (by simpa using h),
      List.reverse_reverse]

/-- A text is what its trimming leaves, between spaces. -/
theorem exists_spaces_trim (t : List Nat) :
    ∃ a b, t = List.replicate a 32 ++ trim t ++ List.replicate b 32 := by
  have spaces : ∀ l : List Nat, ∃ a, l.takeWhile (fun c => decide (c = 32)) = List.replicate a 32 :=
    fun l => ⟨_, List.eq_replicate_of_mem fun c hc => by simpa using List.mem_takeWhile_imp hc⟩
  obtain ⟨a, ha⟩ := spaces t
  obtain ⟨b, hb⟩ := spaces (t.dropWhile fun c => decide (c = 32)).reverse
  have behind : t.dropWhile (fun c => decide (c = 32)) = trim t ++ List.replicate b 32 := by
    have ends := List.takeWhile_append_dropWhile (p := fun c => decide (c = 32))
      (l := (t.dropWhile fun c => decide (c = 32)).reverse)
    rw [hb] at ends
    simpa [trim] using (congrArg List.reverse ends).symm
  refine ⟨a, b, ?_⟩
  rw [List.append_assoc, ← behind, ← ha, List.takeWhile_append_dropWhile]

/-! #### The commas of an integer part -/

/-- The codes of an integer part: digits and commas. -/
def WholeCodes (whole : List Nat) : Prop := ∀ c ∈ whole, c = 44 ∨ (48 ≤ c ∧ c ≤ 57)

/-- Every comma stands directly between two digits. -/
def CommasBetween (whole : List Nat) : Prop :=
  ∀ i, whole[i]? = some 44 → ∃ j d e, i = j + 1 ∧ whole[j]? = some d ∧ d ≠ 44 ∧
    whole[i + 1]? = some e ∧ e ≠ 44

theorem isDigit_iff {c : Nat} : isDigit c = true ↔ 48 ≤ c ∧ c ≤ 57 := by simp [isDigit]

theorem commasGood_comma (prev : Bool) (rest : List Nat) :
    commasGood prev (44 :: rest) = (prev && rest.head?.any isDigit && commasGood false rest) := by
  cases rest <;> rfl

theorem commasGood_digit {c : Nat} (h : c ≠ 44) (prev : Bool) (rest : List Nat) :
    commasGood prev (c :: rest) = commasGood true rest := by
  cases rest <;> simp [commasGood, h]

/-- The check of the commas, as a statement on each of them; `prev` says that a digit stands ahead of the
list. -/
theorem commasGood_iff {whole : List Nat} (h : WholeCodes whole) (prev : Bool) :
    commasGood prev whole = true ↔ ∀ i, whole[i]? = some 44 →
      ((i = 0 ∧ prev = true) ∨ ∃ j d, i = j + 1 ∧ whole[j]? = some d ∧ d ≠ 44) ∧
        ∃ e, whole[i + 1]? = some e ∧ e ≠ 44 := by
  induction whole generalizing prev with
  | nil => simp [commasGood]
  | cons c rest ih =>
    have hrest : WholeCodes rest := fun d hd => h d (List.mem_cons_of_mem _ hd)
    have ahead : ∀ k, (∃ j d, k + 1 = j + 1 ∧ (c :: rest)[j]? = some d ∧ d ≠ 44) ↔
        ((k = 0 ∧ c ≠ 44) ∨ ∃ j d, k = j + 1 ∧ rest[j]? = some d ∧ d ≠ 44) := by
      rintro (_ | k) <;> simp
    have later : ∀ k, (k + 1 = 0 ∧ prev = true) ↔ False := by simp
    rw [← Nat.and_forall_add_one]
    simp only [ahead, later, false_or, List.getElem?_cons_succ, List.getElem?_cons_zero]
    by_cases hc : c = 44
    · have next : rest.head?.any isDigit = true ↔ ∃ e, rest[0]? = some e ∧ e ≠ 44 := by
        cases rest with
        | nil => simp
        | cons d rest =>
          have code := hrest d List.mem_cons_self
          simp only [List.head?_cons, Option.any_some, isDigit_iff, List.getElem?_cons_zero,
            Option.some.injEq, exists_eq_left']
          omega
      subst hc
      rw [commasGood_comma, Bool.and_eq_true, Bool.and_eq_true, next, ih hrest]
      simp
    · rw [commasGood_digit hc, ih hrest]
      simp [hc]

theorem commasGood_iff_commasBetween {whole : List Nat} (h : WholeCodes whole) :
    commasGood false whole = true ↔ CommasBetween whole := by
  rw [commasGood_iff h, CommasBetween]
  refine forall₂_congr fun i _ => ?_
  simp only [Bool.false_eq_true, and_false, false_or]
  constructor
  · rintro ⟨⟨j, d, hi, hd, hd'⟩, e, he, he'⟩
    exact ⟨j, d, e, hi, hd, hd', he, he'⟩
  · rintro ⟨j, d, e, hi, hd, hd', he, he'⟩
    exact ⟨⟨j, d, hi, hd, hd'⟩, e, he, he'⟩

/-! #### The number that digits spell -/

/-- The codes of a list spell the number of its digits, the last one the least (R63). -/
theorem digitsValue_eq (digits : List Nat) :
    digitsValue digits = Nat.ofDigits 10 (digits.map fun c => c - 48).reverse := by
  induction digits using List.reverseRecOn with
  | nil => rfl
  | append_singleton front d ih =>
    rw [List.map_append, List.reverse_append, List.map_singleton, List.reverse_singleton,
      List.singleton_append, Nat.ofDigits_cons, ← ih, digitsValue, List.foldl_concat, digitsValue, Nat.add_comm, Nat.mul_comm]

/-- `n` digits spell a number below 10 to the `n`. -/
theorem digitsValue_lt {digits : List Nat} (h : ∀ c ∈ digits, 48 ≤ c ∧ c ≤ 57) :
    digitsValue digits < 10 ^ digits.length := by
  rw [digitsValue_eq]
  have := Nat.ofDigits_lt_base_pow_length (b := 10) (l := (digits.map fun c => c - 48).reverse)
    (by decide) (by
      intro x hx
      obtain ⟨c, hc, rfl⟩ := List.mem_map.mp (List.mem_reverse.mp hx)
      have := h c hc
      omega)
  simpa using this

/-! #### The unsigned number -/

/-- A text without its sign: an integer part, then an optional point with a fraction, one digit at least in
all (R62). -/
structure UnsignedPrice (whole point frac : List Nat) : Prop where
  codes : WholeCodes whole
  commas : CommasBetween whole
  point : point = [46] ∨ (point = [] ∧ frac = [])
  digits : ∀ c ∈ frac, 48 ≤ c ∧ c ≤ 57
  spelt : whole.filter (fun c => c ≠ 44) ++ frac ≠ []

/-- What an integer part and a fraction are read as: the unsigned mantissa and the scale, or nothing (R63). -/
def readParts (whole frac : List Nat) : Option (Nat × Nat) :=
  if commasGood false whole && frac.all isDigit && !(whole.filter isDigit ++ frac).isEmpty then
    some (digitsValue (whole.filter isDigit ++ frac), frac.length)
  else none

/-- The digits of an integer part are its codes but for the commas. -/
theorem filter_isDigit {whole : List Nat} (h : WholeCodes whole) :
    whole.filter isDigit = whole.filter fun c => c ≠ 44 :=
  List.filter_congr fun c hc => by
    have code := h c hc
    rw [Bool.eq_iff_iff, isDigit_iff, decide_eq_true_eq]
    omega

/-- The parts that are read are those of R62's form. -/
theorem readParts_eq_some {whole point frac : List Nat} (hw : WholeCodes whole)
    (hp : point = [46] ∨ (point = [] ∧ frac = [])) {v q : Nat} :
    readParts whole frac = some (v, q) ↔ UnsignedPrice whole point frac ∧
      v = digitsValue (whole.filter (fun c => c ≠ 44) ++ frac) ∧ q = frac.length := by
  have checks : (commasGood false whole && frac.all isDigit &&
      !(whole.filter isDigit ++ frac).isEmpty) = true ↔ UnsignedPrice whole point frac := by
    rw [filter_isDigit hw, Bool.and_eq_true, Bool.and_eq_true, commasGood_iff_commasBetween hw,
      List.all_eq_true, Bool.not_eq_true', List.isEmpty_eq_false_iff]
    simp only [isDigit_iff]
    exact ⟨fun ⟨⟨commas, digits⟩, spelt⟩ => ⟨hw, commas, hp, digits, spelt⟩,
      fun h => ⟨⟨h.commas, h.digits⟩, h.spelt⟩⟩
  rw [filter_isDigit hw] at checks
  rw [readParts, filter_isDigit hw]
  split
  · rename_i hgood
    simp only [checks.mp hgood, true_and, Option.some.injEq, Prod.mk.injEq]
    exact and_congr eq_comm eq_comm
  · rename_i hbad
    simp [mt checks.mpr hbad]

/-- The code may stand in an integer part. -/
theorem isDigit_or_comma_iff {c : Nat} :
    (isDigit c || c = 44) = true ↔ c = 44 ∨ (48 ≤ c ∧ c ≤ 57) := by
  rw [Bool.or_eq_true, isDigit_iff, decide_eq_true_eq, or_comm]

/-- A text of this form is read part by part: the codes of the integer part reach as far as its point. -/
theorem parseUnsigned_parts {whole point frac : List Nat} (hw : WholeCodes whole)
    (hp : point = [46] ∨ (point = [] ∧ frac = [])) :
    parseUnsigned (whole ++ point ++ frac) = readParts whole frac := by
  have codes : ∀ c ∈ whole, (isDigit c || c = 44) = true := fun c hc =>
    isDigit_or_comma_iff.mpr (hw c hc)
  rcases hp with rfl | ⟨rfl, rfl⟩
  · have split : (whole ++ [46] ++ frac).takeWhile (fun c => isDigit c || c = 44) = whole ∧
        (whole ++ [46] ++ frac).dropWhile (fun c => isDigit c || c = 44) = 46 :: frac := by
      rw [List.append_assoc, List.takeWhile_append_of_pos codes, List.dropWhile_append_of_pos codes]
      simp [isDigit]
    obtain ⟨take, drop⟩ := split
    simp only [parseUnsigned, readParts, take, drop, if_true]
  · have split : (whole ++ [] ++ []).takeWhile (fun c => isDigit c || c = 44) = whole ∧
        (whole ++ [] ++ []).dropWhile (fun c => isDigit c || c = 44) = [] := by
      rw [List.append_assoc, List.takeWhile_append_of_pos codes, List.dropWhile_append_of_pos codes]
      simp
    obtain ⟨take, drop⟩ := split
    simp only [parseUnsigned, readParts, take, drop]

/-- A text that is read has such parts. -/
theorem exists_parts_of_parseUnsigned {t : List Nat} {r : Nat × Nat} (h : parseUnsigned t = some r) :
    ∃ whole point frac, t = whole ++ point ++ frac ∧ WholeCodes whole ∧
      (point = [46] ∨ (point = [] ∧ frac = [])) ∧ readParts whole frac = some r := by
  have codes : WholeCodes (t.takeWhile fun c => isDigit c || c = 44) := fun c hc =>
    isDigit_or_comma_iff.mp (List.mem_takeWhile_imp (p := fun c => isDigit c || c = 44) hc)
  have parts := (List.takeWhile_append_dropWhile (p := fun c => isDigit c || c = 44) (l := t)).symm
  cases hrest : t.dropWhile fun c => isDigit c || c = 44 with
  | nil =>
    simp only [parseUnsigned, hrest] at h
    exact ⟨_, [], [], by simpa [hrest] using parts, codes, .inr ⟨rfl, rfl⟩, h⟩
  | cons c frac =>
    simp only [parseUnsigned, hrest] at h
    split at h
    · rename_i hc
      subst hc
      exact ⟨_, [46], frac, by simpa [hrest] using parts, codes, .inl rfl, h⟩
    · simp at h

/-- What an unsigned text is read as (R62, R63). -/
theorem parseUnsigned_eq_some {t : List Nat} {v q : Nat} :
    parseUnsigned t = some (v, q) ↔ ∃ whole point frac, t = whole ++ point ++ frac ∧
      UnsignedPrice whole point frac ∧ v = digitsValue (whole.filter (fun c => c ≠ 44) ++ frac) ∧
      q = frac.length := by
  constructor
  · intro h
    obtain ⟨whole, point, frac, ht, hw, hp, hread⟩ := exists_parts_of_parseUnsigned h
    exact ⟨whole, point, frac, ht, (readParts_eq_some hw hp).mp hread⟩
  · rintro ⟨whole, point, frac, rfl, form, value⟩
    rw [parseUnsigned_parts form.codes form.point]
    exact (readParts_eq_some form.codes form.point).mpr ⟨form, value⟩

/-! #### The sign -/

/-- The codes of an unsigned text are digits, commas and points, so it begins with no sign and holds no
space. -/
theorem UnsignedPrice.code {whole point frac : List Nat} (h : UnsignedPrice whole point frac) {c : Nat}
    (hc : c ∈ whole ++ point ++ frac) : c = 44 ∨ c = 46 ∨ (48 ≤ c ∧ c ≤ 57) := by
  rcases List.mem_append.mp hc with hc | hc
  · rcases List.mem_append.mp hc with hc | hc
    · have := h.codes c hc
      omega
    · rcases h.point with hp | ⟨hp, -⟩ <;> rw [hp] at hc <;> simp at hc
      exact .inr (.inl hc)
  · exact .inr (.inr (h.digits c hc))

/-- An unsigned text is not empty: it has a digit. -/
theorem UnsignedPrice.ne_nil {whole point frac : List Nat} (h : UnsignedPrice whole point frac) :
    whole ++ point ++ frac ≠ [] := fun e => by
  obtain ⟨rfl, -, rfl⟩ : whole = [] ∧ point = [] ∧ frac = [] := by simpa using e
  exact h.spelt rfl

/-- What a trimmed text with its sign is read as. -/
theorem parsePrice_signed {t sign body : List Nat} (ht : trim t = sign ++ body)
    (hsign : sign = [] ∨ sign = [43] ∨ sign = [45]) (hbody : body ≠ [])
    (hplain : ∀ c ∈ body, c ≠ 43 ∧ c ≠ 45) :
    parsePrice t =
      (parseUnsigned body).map fun v => ((if sign = [45] then -1 else 1) * (v.1 : Int), v.2) := by
  rcases hsign with rfl | rfl | rfl
  · cases body with
    | nil => exact absurd rfl hbody
    | cons c rest =>
      obtain ⟨hplus, hminus⟩ := hplain c List.mem_cons_self
      rw [List.nil_append] at ht
      simp [parsePrice, ht, hplus, hminus]
  · rw [List.singleton_append] at ht
    simp [parsePrice, ht]
  · rw [List.singleton_append] at ht
    simp [parsePrice, ht]

/-- A text that is read has a sign or none, and an unsigned text behind it. -/
theorem exists_sign_of_parsePrice {t : List Nat} {m : Int} {q : Nat} (h : parsePrice t = some (m, q)) :
    ∃ (sign body : List Nat) (v : Nat), trim t = sign ++ body ∧
      (sign = [] ∨ sign = [43] ∨ sign = [45]) ∧ parseUnsigned body = some (v, q) ∧
      m = (if sign = [45] then -1 else 1) * (v : Int) := by
  cases ht : trim t with
  | nil => simp [parsePrice, ht] at h
  | cons c rest =>
    simp only [parsePrice, ht] at h
    split at h
    · rename_i hc
      subst hc
      obtain ⟨⟨v, _⟩, hv, he⟩ := Option.map_eq_some_iff.mp h
      obtain ⟨rfl, rfl⟩ := Prod.mk.inj he
      exact ⟨[43], rest, v, rfl, .inr (.inl rfl), hv, by simp⟩
    · split at h
      · rename_i hc
        subst hc
        obtain ⟨⟨v, _⟩, hv, he⟩ := Option.map_eq_some_iff.mp h
        obtain ⟨rfl, rfl⟩ := Prod.mk.inj he
        exact ⟨[45], rest, v, rfl, .inr (.inr rfl), hv, by simp⟩
      · obtain ⟨⟨v, _⟩, hv, he⟩ := Option.map_eq_some_iff.mp h
        obtain ⟨rfl, rfl⟩ := Prod.mk.inj he
        exact ⟨[], c :: rest, v, rfl, .inl rfl, hv, by simp⟩

/-- A text is a number exactly when it is a sign and an unsigned text between spaces (R62). -/
theorem parsePrice_eq_some {t : List Nat} {m : Int} {q : Nat} :
    parsePrice t = some (m, q) ↔ ∃ (a b : Nat) (sign whole point frac : List Nat),
      t = List.replicate a 32 ++ (sign ++ (whole ++ point ++ frac)) ++ List.replicate b 32 ∧
      (sign = [] ∨ sign = [43] ∨ sign = [45]) ∧ UnsignedPrice whole point frac ∧
      m = (if sign = [45] then -1 else 1) *
        (digitsValue (whole.filter (fun c => c ≠ 44) ++ frac) : Int) ∧ q = frac.length := by
  constructor
  · intro h
    obtain ⟨sign, body, v, htrim, hsign, hread, hm⟩ := exists_sign_of_parsePrice h
    obtain ⟨whole, point, frac, hbody, form, hv, hq⟩ := parseUnsigned_eq_some.mp hread
    obtain ⟨a, b, ht⟩ := exists_spaces_trim t
    rw [htrim, hbody] at ht
    exact ⟨a, b, sign, whole, point, frac, ht, hsign, form, hv ▸ hm, hq⟩
  · rintro ⟨a, b, sign, whole, point, frac, rfl, hsign, form, rfl, rfl⟩
    have spaceless : ∀ c ∈ sign ++ (whole ++ point ++ frac), c ≠ 32 := fun c hc => by
      rcases List.mem_append.mp hc with hc | hc
      · rcases hsign with rfl | rfl | rfl <;> simp at hc <;> omega
      · have := form.code hc
        omega
    have unsigned : ∀ c ∈ whole ++ point ++ frac, c ≠ 43 ∧ c ≠ 45 := fun c hc => by
      have := form.code hc
      omega
    rw [parsePrice_signed (trim_between_spaces spaceless a b) hsign form.ne_nil unsigned,
      parseUnsigned_eq_some.mpr ⟨whole, point, frac, rfl, form, rfl, rfl⟩]
    rfl

/-- A text of 16 codes spells a mantissa of at most 16 digits and has a scale of at most 15 (R63). -/
theorem parsePrice_bounds {t : List Nat} {m : Int} {q : Nat} (h : parsePrice t = some (m, q))
    (ht : t.length ≤ 16) : m.natAbs < 10 ^ 16 ∧ q ≤ 15 := by
  obtain ⟨a, b, sign, whole, point, frac, rfl, -, form, rfl, rfl⟩ := parsePrice_eq_some.mp h
  have hfilter := List.length_filter_le (fun c => decide (c ≠ 44)) whole
  simp only [List.length_append, List.length_replicate] at ht
  have digits : ∀ c ∈ whole.filter (fun c => c ≠ 44) ++ frac, 48 ≤ c ∧ c ≤ 57 := fun c hc => by
    rcases List.mem_append.mp hc with hc | hc
    · obtain ⟨hc, hcomma⟩ := List.mem_filter.mp hc
      exact (form.codes c hc).resolve_left (by simpa using hcomma)
    · exact form.digits c hc
  have count : (whole.filter (fun c => c ≠ 44) ++ frac).length ≤ 16 := by
    rw [List.length_append]
    omega
  have value := (digitsValue_lt digits).trans_le (Nat.pow_le_pow_right (by decide) count)
  constructor
  · rw [Int.natAbs_mul, Int.natAbs_natCast]
    split <;> simpa using value
  · rcases form.point with hp | ⟨-, hf⟩
    · rw [hp, List.length_singleton] at ht
      omega
    · simp [hf]

/-- Settles O60: R62's form part by part, and the digits read as R63 says. -/
theorem priceTextsAreRead : Obligations.PriceTextsAreRead := by
  refine ⟨fun t m q => parsePrice_eq_some.trans ⟨?_, ?_⟩, fun t m q => parsePrice_bounds⟩
  · rintro ⟨a, b, sign, whole, point, frac, ht, hsign, form, hm, hq⟩
    rw [digitsValue_eq] at hm
    exact ⟨a, b, sign, whole, point, frac, _, by simpa using ht, hsign, form.codes, form.commas,
      form.point, form.digits, rfl, form.spelt, hm, hq⟩
  · rintro ⟨a, b, sign, whole, point, frac, digits, ht, hsign, codes, commas, hp, hfrac, rfl, spelt,
      hm, hq⟩
    rw [← digitsValue_eq] at hm
    exact ⟨a, b, sign, whole, point, frac, by simpa using ht, hsign,
      ⟨codes, commas, hp, hfrac, spelt⟩, hm, hq⟩

end Sys2Proof.Machine
end

section
/-! ### The steps of a TICK one after another (R60, R61, R67)

A TICK's steps read what later ones need, so a run of them hands on the command in flight as well as the
part. A mark event of a TICK with result SAME changes nothing, so it makes no difference to the run that the
engine drops it. -/

namespace Sys2Proof.Machine

variable {s : State} {f : Flight} {m : Micro} {todo rest : List Micro}

/-- A step of a TICK. -/
def Micro.ticks : Micro → Bool
  | .readOld _ _ | .putCode _ _ _ | .markEvent _ _ _ _ | .arrow _ _ _ => true
  | .put _ _ _ _ | .load _ _ | .store _ _ | .tint _ _ _ _ | .read _ _ | .clearCell _ _ | .text _ _ _
  | .advance _ | .discard | .readBitmap _ _ _ | .refuse _ => false

/-- What steps leave of the part, one after another, each with the codes read before it. -/
def runSteps : Flight → List Micro → State → State
  | _, [], s => s
  | f, m :: rest, s => runSteps (m.progress f s) rest (m.effect f s)

/-- The mark event of a TICK with result SAME changes nothing (R67). -/
theorem Micro.effect_markEvent_same {col row : Nat} {new : List Code} (digit : Bool)
    (h : judge f.old new = none) (s : State) : (Micro.markEvent col row new digit).effect f s = s := by
  simp only [effect, h]

/-- The mark event of a TICK with another result (R73, R74). -/
theorem Micro.effect_markEvent_changed {col row : Nat} {new : List Code} {dir : Direction}
    (digit : Bool) (h : judge f.old new = some dir) (s : State) :
    (Micro.markEvent col row new digit).effect f s = { s with
      marks := recordMark s.marks ((s.pane f.pane).view.cellAddr col row) new.length
        (newMark s.shownRamp ((s.pane f.pane).view.cellAddr col row) f.old new dir digit) } := by
  simp only [effect, h]

/-- An idle mark event dropped makes no difference. -/
theorem runSteps_dropIdleMark (f : Flight) (todo : List Micro) (s : State) :
    runSteps f (dropIdleMark f.old todo) s = runSteps f todo s := by
  unfold dropIdleMark
  split
  · split
    · rename_i hsame
      rw [runSteps, Micro.effect_markEvent_same _ hsame]
      rfl
    · rfl
  · rfl

section Ticks

variable (hm : m.ticks = true) (f) (s)

include hm

/-- The step asks of the command in flight only its port, its pane and the codes it has read. -/
theorem Micro.effect_ticks_flying (todo : List Micro) :
    m.effect { f with todo := todo } (s.flying f todo) = (m.effect f s).flying f todo := by
  cases m <;> simp only [ticks, Bool.false_eq_true] at hm
  case readOld | putCode => rfl
  case markEvent col row new digit =>
    cases h : judge f.old new with
    | none =>
      rw [effect_markEvent_same digit h]
      exact effect_markEvent_same (f := { f with todo := todo }) digit h _
    | some dir =>
      rw [effect_markEvent_changed digit h]
      exact effect_markEvent_changed (f := { f with todo := todo }) digit h _
  case arrow col row new =>
    simp only [effect]
    split <;> rename_i h
    · rw [if_pos (by exact h)]
    · rw [if_neg (by exact h)]
      rfl

theorem Micro.progress_ticks_flying (todo : List Micro) :
    m.progress { f with todo := todo } (s.flying f todo) = { m.progress f s with todo := todo } := by
  cases m <;> simp only [ticks, Bool.false_eq_true] at hm <;> rfl

/-- The step changes the plane and the mark table alone. -/
theorem Micro.effect_ticks_eq :
    m.effect f s = { s with plane := (m.effect f s).plane, marks := (m.effect f s).marks } := by
  cases m <;> simp only [ticks, Bool.false_eq_true] at hm
  case readOld | putCode => rfl
  case markEvent | arrow =>
    simp only [effect]
    split <;> rfl

theorem Micro.effect_ticks_pane (p : PaneId) : (m.effect f s).pane p = s.pane p := by
  rw [effect_ticks_eq s f hm]
  rfl

end Ticks

/-- A step of a TICK in its pane is its effect, with the rest of the steps left or at the end. -/
theorem engineStep_ticks (hm : m.ticks = true) (hfit : m.fits (s.pane f.pane))
    (hl : (s.pane f.pane).view.Legal) :
    engineStep (s.flying f (m :: rest)) = .next
      (if dropIdleMark (m.progress f s).old rest = [] then (m.effect f s).complete f.port
      else (m.effect f s).flying (m.progress f s) (dropIdleMark (m.progress f s).old rest)) := by
  have done : (s.flying f (m :: rest)).stepDone { f with todo := m :: rest } m rest =
      if dropIdleMark (m.progress f s).old rest = [] then (m.effect f s).complete f.port
      else (m.effect f s).flying (m.progress f s) (dropIdleMark (m.progress f s).old rest) := by
    simp only [State.stepDone, Micro.progress_ticks_flying s f hm, Micro.effect_ticks_flying s f hm,
      List.isEmpty_iff]
    rfl
  rw [← done]
  exact engineStep_cons rfl rfl fun a ha => hfit.address_lt (fun _ => hl) ha

/-- With nothing in flight the engine stays where it is. -/
theorem engineSteps_idle (h : s.flight = none) : ∀ n, engineSteps n s = .next s
  | 0 => rfl
  | n + 1 => by
    simp only [engineSteps, engineStep, h]
    exact engineSteps_idle h n

/-- A TICK in flight runs as the effects of its steps, and completes. -/
theorem engineSteps_ticks {n : Nat} (hn : todo.length ≤ n) (hnil : todo ≠ [])
    (ht : ∀ k ∈ todo, k.ticks = true) (hfit : ∀ k ∈ todo, k.fits (s.pane f.pane))
    (hl : (s.pane f.pane).view.Legal) :
    engineSteps n (s.flying f todo) = .next ((runSteps f todo s).complete f.port) := by
  induction n generalizing s f todo with
  | zero => exact absurd (List.eq_nil_of_length_eq_zero (Nat.le_zero.mp hn)) hnil
  | succ n ih =>
    obtain ⟨m, rest, rfl⟩ := List.exists_cons_of_ne_nil hnil
    have hm := ht m List.mem_cons_self
    have pane := Micro.effect_ticks_pane s f hm f.pane
    have step := engineStep_ticks (rest := rest) hm (hfit m List.mem_cons_self) hl
    have drops := runSteps_dropIdleMark (m.progress f s) rest (m.effect f s)
    simp only [engineSteps, step]
    split
    · rename_i hlast
      rw [hlast] at drops
      rw [engineSteps_idle rfl, runSteps, ← drops]
      rfl
    · rename_i hmore
      have later : ∀ k ∈ dropIdleMark (m.progress f s).old rest, k ∈ m :: rest := fun k hk =>
        List.mem_cons_of_mem _ (mem_of_mem_dropIdleMark hk)
      have shorter : (dropIdleMark (m.progress f s).old rest).length ≤ n := by
        have : (dropIdleMark (m.progress f s).old rest).length ≤ rest.length := by
          unfold dropIdleMark
          split
          · split <;> simp
          · exact le_rfl
        simp only [List.length_cons] at hn
        omega
      rw [ih shorter hmore (fun k hk => ht k (later k hk))
        (by rw [Micro.progress_pane, pane]; exact fun k hk => hfit k (later k hk))
        (by rwa [Micro.progress_pane, pane]), drops, Micro.progress_port]
      rfl

/-- A run of these steps changes the plane and the mark table alone. -/
theorem runSteps_ticks_eq (ht : ∀ k ∈ todo, k.ticks = true) (f : Flight) (s : State) :
    runSteps f todo s =
      { s with plane := (runSteps f todo s).plane, marks := (runSteps f todo s).marks } := by
  induction todo generalizing s f with
  | nil => rfl
  | cons m rest ih =>
    exact State.eq_write_trans (Micro.effect_ticks_eq s f (ht m List.mem_cons_self))
      (ih (fun k hk => ht k (List.mem_cons_of_mem _ hk)) (m.progress f s) (m.effect f s))

/-- The row of a command taken with such steps in its pane, on a port served at once, runs them on the
state its delivery leaves. -/
theorem exec_of_ticks {i : Instr} {x : Port} {c : Command} (hi : i.command = some (x, c))
    (hc : c.WellFormed = true) (hfree : s.freeFor x c = true)
    (hstart : startCommand x c (s.grantedNow x c) = (s.grantedNow x c).takeFlight x false todo)
    (hneed : replyNeed (some c) = 0) (hnil : todo ≠ []) (ht : ∀ k ∈ todo, k.ticks = true)
    (hfit : ∀ k ∈ todo, k.fits (s.pane (Command.named c)))
    (hl : (s.pane (Command.named c)).view.Legal) :
    exec i s = .next (runSteps (grantedFlight x c) todo (s.delivered x c)) := by
  have only := runSteps_ticks_eq ht (grantedFlight x c) (s.delivered x c)
  have idle : (runSteps (grantedFlight x c) todo (s.delivered x c)).flight = none := by
    rw [only]
    exact (State.servedAtOnce hfree).idle
  have unreserved :
      ((runSteps (grantedFlight x c) todo (s.delivered x c)).port x).reserved = 0 := by
    rw [only]
    exact (s.delivered_setClip_reserved x c false).trans hneed
  have run := engineSteps_ticks (f := grantedFlight x c) (s := s.delivered x c) le_rfl hnil ht hfit hl
  obtain ⟨m, rest, rfl⟩ := List.exists_cons_of_ne_nil hnil
  rw [exec_of_freeFor hi hc hfree, State.begun_eq, beginCommand, hstart,
    State.completeIfDone_cons x rfl rfl]
  exact run.trans (congrArg _ (State.complete_idle idle unreserved))

end Sys2Proof.Machine
end

section
/-! ### TICK (R58-R61, R67-R70, R73, R74) -/

namespace Sys2Proof.Machine

variable {s : State} {f : Flight} {x : Port} {p : PaneId} {row col : Nat} {codes : List Code}
  {digit arrow : Bool}

/-! #### Codes written into cells that keep their attributes (R6, R67) -/

/-- Codes written at addresses, one after another. -/
def State.writeCodes (s : State) (writes : List (Nat × Code)) : State :=
  writes.foldl (fun u e => u.writeFieldCode e.1 e.2) s

section WriteCodes

variable (s) {writes : List (Nat × Code)}

/-- Code writes of a field change the plane alone. -/
theorem State.writeCodes_eq : s.writeCodes writes = { s with plane := (s.writeCodes writes).plane } := by
  induction writes generalizing s with
  | nil => rfl
  | cons e rest ih => exact ih (s.writeFieldCode e.1 e.2)

theorem State.writeCodes_wf (h : s.plane.wf = true) : (s.writeCodes writes).plane.wf = true := by
  induction writes generalizing s with
  | nil => exact h
  | cons e rest ih => exact ih _ (Plane.write_wf _ _ h)

/-- A cell that no write is at stays. -/
theorem State.writeCodes_cell_other {a : Nat} (ha : ∀ e ∈ writes, e.1 ≠ a) :
    (s.writeCodes writes).cell a = s.cell a := by
  induction writes generalizing s with
  | nil => rfl
  | cons e rest ih =>
    exact (ih _ fun d hd => ha d (List.mem_cons_of_mem _ hd)).trans
      (State.cell_writeFieldCode_other s _ (ha e List.mem_cons_self).symm)

/-- A cell that one write is at holds its code, and its own attributes. -/
theorem State.writeCodes_cell (h : s.plane.wf = true) (hd : (writes.map Prod.fst).Nodup) {a : Nat}
    {code : Code} (hmem : (a, code) ∈ writes) :
    (s.writeCodes writes).cell a = { s.cell a with code := code } := by
  induction writes generalizing s with
  | nil => simp at hmem
  | cons e rest ih =>
    rw [List.map_cons, List.nodup_cons] at hd
    obtain ⟨hfirst, hrest⟩ := hd
    have unlike : ∀ d ∈ rest, d.1 ≠ e.1 := fun d hd he => hfirst (he ▸ List.mem_map_of_mem hd)
    show ((s.writeFieldCode e.1 e.2).writeCodes rest).cell a = _
    rcases List.mem_cons.mp hmem with rfl | hmem
    · exact (State.writeCodes_cell_other _ unlike).trans (State.cell_writeFieldCode_same s _ _ h)
    · rw [ih _ (Plane.write_wf _ _ h) hrest hmem,
        State.cell_writeFieldCode_other s _ (unlike _ hmem)]

end WriteCodes

/-! #### What the steps leave, phase by phase -/

/-- The reads of the field take its codes into the command in flight, leftmost first (R61). -/
theorem runSteps_reads (f : Flight) (cols : List Nat) (rest : List Micro) (s : State) :
    runSteps f (cols.map (fun i => .readOld (col + i) row) ++ rest) s =
      runSteps { f with old := f.old ++ cols.map fun i =>
        (s.cell ((s.pane f.pane).view.cellAddr (col + i) row)).code } rest s := by
  induction cols generalizing f with
  | nil => simp
  | cons i cols ih =>
    rw [List.map_cons, List.cons_append, runSteps]
    refine (ih _).trans ?_
    simp [Micro.progress]

/-- The code writes of the field (R67). -/
theorem runSteps_putCodes (f : Flight) (writes : List (Code × Nat)) (rest : List Micro) (s : State) :
    runSteps f (writes.map (fun e => .putCode (col + e.2) row e.1) ++ rest) s =
      runSteps f rest (s.writeCodes (writes.map fun e =>
        ((s.pane f.pane).view.cellAddr (col + e.2) row, e.1))) := by
  induction writes generalizing s with
  | nil => rfl
  | cons e writes ih =>
    rw [List.map_cons, List.cons_append, runSteps]
    exact ih (s.writeFieldCode _ _)

/-- The arrow's step, where TICK has one (R70). -/
theorem runSteps_arrow (f : Flight) (arrow : Bool) (new : List Code) (s : State) :
    runSteps f (if arrow && col ≠ 0 then [.arrow (col - 1) row new] else []) s =
      let a := (s.pane f.pane).view.cellAddr (col - 1) row
      if arrow && col ≠ 0 && !(s.cell a).attr.guarded then
        s.writeCell a { s.cell a with code := arrowCode (judge f.old new) }
      else s := by
  dsimp only
  by_cases h : (arrow && col ≠ 0) = true
  · rw [if_pos h, h, Bool.true_and]
    cases hg : (s.cell ((s.pane f.pane).view.cellAddr (col - 1) row)).attr.guarded <;>
      simp [runSteps, Micro.effect, hg]
  · rw [if_neg h, Bool.eq_false_iff.mpr h]
    rfl

/-- The arrow code of each result (R70). -/
theorem arrowCode_eq (dir : Option Direction) :
    arrowCode dir = if dir = some .up then 286 else if dir = some .down then 287 else 32 := by
  rcases dir with _ | _ | _ | _ <;> rfl

/-! #### The cells of the field -/

/-- The cells of a row stand at one address after another. -/
theorem PaneView.cellAddr_add (v : PaneView) (col k row : Nat) :
    v.cellAddr (col + k) row = v.cellAddr col row + k := (Nat.add_assoc _ _ _).symm

/-- The codes of a TICK at the addresses of its field. -/
def fieldWrites (v : PaneView) (row col : Nat) (codes : List Code) : List (Nat × Code) :=
  codes.zipIdx.map fun e => (v.cellAddr (col + e.2) row, e.1)

theorem mem_fieldWrites {v : PaneView} {a : Nat} {code : Code} :
    (a, code) ∈ fieldWrites v row col codes ↔
      ∃ i, codes[i]? = some code ∧ a = v.cellAddr (col + i) row := by
  simp only [fieldWrites, List.mem_map, Prod.exists, List.mem_zipIdx_iff_getElem?, Prod.mk.injEq]
  constructor
  · rintro ⟨k, i, h, rfl, rfl⟩
    exact ⟨i, h, rfl⟩
  · rintro ⟨i, h, rfl⟩
    exact ⟨code, i, h, rfl, rfl⟩

theorem fieldWrites_nodup (v : PaneView) (row col : Nat) (codes : List Code) :
    ((fieldWrites v row col codes).map Prod.fst).Nodup := by
  have addresses : (fieldWrites v row col codes).map Prod.fst =
      (codes.zipIdx.map Prod.snd).map fun i => v.cellAddr (col + i) row := by
    rw [fieldWrites, List.map_map, List.map_map]
    rfl
  rw [addresses, List.zipIdx_map_snd]
  refine List.Nodup.map (fun i j h => ?_) List.nodup_range'
  simpa only [PaneView.cellAddr_add, Nat.add_left_cancel_iff] using h

/-- A cell of the field holds its new code, and its own attributes (R67). -/
theorem State.writeCodes_field (h : s.plane.wf = true) (v : PaneView) (row col : Nat) {i : Nat}
    {code : Code} (hi : codes[i]? = some code) :
    (s.writeCodes (fieldWrites v row col codes)).cell (v.cellAddr (col + i) row) =
      { s.cell (v.cellAddr (col + i) row) with code := code } :=
  State.writeCodes_cell s h (fieldWrites_nodup v row col codes) (mem_fieldWrites.mpr ⟨i, hi, rfl⟩)

/-- A cell outside the field stays. -/
theorem State.writeCodes_outside (v : PaneView) {a : Nat}
    (ha : ∀ i, i < codes.length → a ≠ v.cellAddr (col + i) row) :
    (s.writeCodes (fieldWrites v row col codes)).cell a = s.cell a := by
  refine State.writeCodes_cell_other s fun e he hea => ?_
  obtain ⟨i, hi, haddr⟩ := mem_fieldWrites.mp he
  obtain ⟨hlt, -⟩ := List.getElem?_eq_some_iff.mp hi
  exact ha i hlt (hea ▸ haddr)

/-! #### The command -/

theorem tickSteps_ticks : ∀ m ∈ tickSteps row col codes digit arrow, m.ticks = true := by
  intro m hm
  simp only [tickSteps, List.mem_append, List.mem_map, List.mem_singleton] at hm
  rcases hm with ((⟨_, -, rfl⟩ | ⟨_, -, rfl⟩) | rfl) | hm
  · rfl
  · rfl
  · rfl
  · split at hm <;> simp at hm
    rw [hm]
    rfl

/-- What a TICK that passes its checks has: an owned, defined pane with room for its field, and no guard in
the field (R59). -/
theorem State.tick_passes (h : s.verdict x (.tick p row col codes digit arrow) = none) :
    (s.pane p).owner = some x ∧ (s.pane p).defined = true ∧ row < (s.pane p).view.height ∧
      col + codes.length ≤ (s.pane p).view.width ∧
      s.fieldGuarded (s.pane p).view row col codes.length = false := by
  simpa [State.checks, Command.ownerPane, Pane.defined, State.fieldGuarded] using
    State.checks_passed h

theorem beginTick_steps (h : s.verdict x (.tick p row col codes digit arrow) = none) :
    beginTick x p row col codes digit arrow s =
      s.takeFlight x false (tickSteps row col codes digit arrow) := by
  obtain ⟨howner, hd, hrow, hcol, hopen⟩ := State.tick_passes h
  have pass : tickRefusal x p row col codes.length s = none := by
    simp [tickRefusal, State.owns_of_owner howner, hd, Nat.not_le.mpr hrow, Nat.not_lt.mpr hcol, hopen]
  simp only [beginTick, pass]

/-- The steps of a TICK leave its codes written, then its mark event made, then its arrow drawn, all with
the codes that its field held. -/
theorem runSteps_tickSteps (f : Flight) (s : State) :
    runSteps f (tickSteps row col codes digit arrow) s =
      let g : Flight := { f with old := f.old ++ (List.range codes.length).map fun i =>
        (s.cell ((s.pane f.pane).view.cellAddr (col + i) row)).code }
      runSteps g (if arrow && col ≠ 0 then [.arrow (col - 1) row codes] else [])
        ((Micro.markEvent col row codes digit).effect g
          (s.writeCodes (fieldWrites (s.pane f.pane).view row col codes))) := by
  rw [tickSteps, List.append_assoc, List.append_assoc, runSteps_reads, runSteps_putCodes]
  rfl

/-- The table after a mark event: the records over the field are gone, the head is gone too from a table
still full, and the new record is at the tail (R73). -/
theorem recordMark_eq (marks : List Mark) (a n : Nat) (m : Mark) {kept : List Mark}
    (hkept : kept = marks.filter fun r =>
      !decide (r.start < a + n ∧ a < r.start + r.length)) :
    recordMark marks a n m = (if 192 ≤ kept.length then kept.tail else kept) ++ [m] := by
  have meets : ∀ r : Mark, r.meets a n = decide (r.start < a + n ∧ a < r.start + r.length) :=
    fun r => (Bool.decide_and ..).symm
  simp only [recordMark, meets, ← hkept]

/-- Settles O43: the run of TICK's steps, each phase with what it leaves. -/
theorem tickRewritesAndMarks : Obligations.TickRewritesAndMarks := by
  intro s x p row col codes digit arrow v old dir k at_ kept marked arrowDrawn hc hfree hverdict hv hl
    hwf hat hold hdir hk hkept hmarked hdrawn
  obtain ⟨-, hdefined, hrow, hcol, -⟩ := State.tick_passes hverdict
  have address : ∀ i, at_ i = v.cellAddr i row := fun i => by rw [hat]
  have field : ∀ i, at_ (col + i) = at_ col + i := fun i => by
    rw [address, address, PaneView.cellAddr_add]
  have left : col ≠ 0 → at_ col = at_ (col - 1) + 1 := fun hcol => by
    rw [address, address, ← PaneView.cellAddr_add, Nat.sub_add_cancel (by omega)]
  -- the field's codes
  obtain ⟨u, hu⟩ : ∃ u, u = (s.delivered x (.tick p row col codes digit arrow)).writeCodes
      (fieldWrites v row col codes) := ⟨_, rfl⟩
  have only : u = { s.delivered x (.tick p row col codes digit arrow) with plane := u.plane } := by
    rw [hu]
    exact State.writeCodes_eq _
  have uwf : u.plane.wf = true := hu ▸ State.writeCodes_wf _ hwf
  have written : ∀ (i : Nat) (code : Code), codes[i]? = some code →
      u.cell (at_ (col + i)) = { s.cell (at_ (col + i)) with code := code } := fun i code hi => by
    rw [hu, address]
    exact State.writeCodes_field (s := s.delivered x _) hwf v row col hi
  have others : ∀ a, (∀ i, i < codes.length → a ≠ at_ (col + i)) → u.cell a = s.cell a :=
    fun a ha => by
      rw [hu]
      exact State.writeCodes_outside v fun i hi => address _ ▸ ha i hi
  have beside : col ≠ 0 → u.cell (at_ (col - 1)) = s.cell (at_ (col - 1)) := fun hcol =>
    others _ fun i _ => by
      have := left hcol
      rw [field]
      omega
  -- the mark event
  obtain ⟨g, hg⟩ : ∃ g : Flight,
      g = { grantedFlight x (.tick p row col codes digit arrow) with old := old } := ⟨_, rfl⟩
  have event : (Micro.markEvent col row codes digit).effect g u = { u with marks := marked } := by
    have umarks : u.marks = s.marks := by rw [only]; rfl
    have ushown : u.shownRamp = s.shownRamp := by rw [only]; rfl
    have upane : (u.pane g.pane).view = v := by rw [only, hg, hv]; rfl
    have judged : judge g.old codes = dir := by rw [hg, hdir]
    cases dir with
    | none =>
      rw [Micro.effect_markEvent_same digit judged, hmarked, ← umarks]
    | some d =>
      have made : newMark s.shownRamp (at_ col) old codes d digit =
          ⟨at_ (col + k), codes.length - k, d, 0, ((s.shownRamp.dir d).stage 0).duration⟩ := by
        rw [field, hk]
        rfl
      rw [Micro.effect_markEvent_changed digit judged, upane, ← address, umarks, ushown,
        recordMark_eq _ _ _ _ hkept, hg, made, hmarked]
  -- the arrow
  have run : exec (.tick x p row col codes digit arrow) s = .next
      (if arrowDrawn then ({ u with marks := marked } : State).writeCell (at_ (col - 1))
        { s.cell (at_ (col - 1)) with code := arrowCode dir }
      else { u with marks := marked }) := by
    have steps := exec_of_ticks (i := .tick x p row col codes digit arrow) rfl hc hfree
      (beginTick_steps (s := s.grantedNow x (.tick p row col codes digit arrow)) hverdict) rfl
      (by simp [tickSteps]) tickSteps_ticks (tickSteps_fits hdefined codes digit arrow hrow hcol)
      (hv ▸ hl)
    have phases : runSteps (grantedFlight x (.tick p row col codes digit arrow))
        (tickSteps row col codes digit arrow) (s.delivered x (.tick p row col codes digit arrow)) =
        runSteps g (if arrow && col ≠ 0 then [.arrow (col - 1) row codes] else [])
          ((Micro.markEvent col row codes digit).effect g u) := by
      rw [runSteps_tickSteps, hg, hold, hu, hat, hv]
      rfl
    have judged : judge g.old codes = dir := by rw [hg, hdir]
    have place : (({ u with marks := marked } : State).pane g.pane).view.cellAddr (col - 1) row =
        at_ (col - 1) := by
      rw [address, hv, hg, only]
      rfl
    rw [steps, phases, event, runSteps_arrow, judged, place]
    by_cases hzero : col = 0
    · simp [hdrawn, hzero]
    · have cell : ({ u with marks := marked } : State).cell (at_ (col - 1)) = s.cell (at_ (col - 1)) :=
        beside hzero
      dsimp only
      rw [cell, hdrawn]
  refine ⟨_, run, ?_⟩
  cases arrowDrawn with
  | false =>
    exact ⟨uwf, written, by simp, fun a ha _ => others a ha, by rw [only]; rfl⟩
  | true =>
    simp only [Bool.true_eq, Bool.and_eq_true, decide_eq_true_eq] at hdrawn
    obtain ⟨⟨-, hcol⟩, -⟩ := hdrawn
    rw [if_pos rfl]
    refine ⟨Plane.write_wf _ _ uwf, fun i code hi => ?_, fun _ => ?_, fun a ha hleft => ?_, ?_⟩
    · rw [State.cell_writeCell_other _ _ (by rw [field, left hcol]; omega)]
      exact written i code hi
    · rw [← arrowCode_eq]
      exact State.cell_writeCell_same { u with marks := marked } _ _ uwf
    · rw [State.cell_writeCell_other _ _ (hleft rfl)]
      exact others a ha
    · rw [only]
      simp [State.writeCell, marksLeft]

end Sys2Proof.Machine
end

section
/-! ### RESET, the clock, and the lines that reach the whole part (R14, R112, R149-R151, R197, R202-R205) -/

namespace Sys2Proof.Machine

variable {s : State}

/-- Rows that end with the arbiter's searches answer alike when the states before the searches are one. -/
theorem next_arbitrate_congr {t u : State} (h : t = u) :
    (.next t.arbitrate : Host.Outcome State Fault Refusal) = .next u.arbitrate := by rw [h]

/-! #### A part that is blank, deaf or grants nothing -/

/-- The output is blank while no frames run (R158). -/
theorem State.videoOut_blank (h : s.framesRun = false) (live : State) (b : Beam) :
    s.videoOut live b = ⟨⟨0, 0, 0⟩, false, false, false, false⟩ := by
  simp only [State.videoOut, h, Bool.false_eq_true, if_false]

theorem State.framesRun_of_clock (h : s.clock ≠ .locked) : s.framesRun = false := by
  simp [State.framesRun, h]

/-- Before the power-on clear completes no port is ready, and nobody is granted (R112, R189). -/
theorem State.ready_of_phase (h : s.phase ≠ .running) (x : Port) : s.ready x = false := by
  simp [State.ready, h]

theorem State.ready_of_standby (h : s.standby = true) (x : Port) : s.ready x = false := by
  simp [State.ready, h]

theorem State.arbiterPick_of_phase (h : s.phase ≠ .running) : s.arbiterPick = none :=
  State.arbiterPick_eq_none (.inr fun x => by
    by_contra he
    exact h (State.eligible_facts (Bool.not_eq_false _ ▸ he)).1)

/-- A port that is not ready holds its ATN line low (R201). -/
theorem State.atnLow_of_not_ready {x : Port} (h : s.ready x = false) : s.atnLow x = true := by
  simp [State.atnLow, h]

theorem State.atnLow_of_flag {x : Port} (h : (s.port x).faults.sticky.any = true) :
    s.atnLow x = true := by
  simp [State.atnLow, h]

/-! #### RESET_ASSERTION -/

/-- Settles O4: RESET low leaves the phase `inReset`, and with it no ready port, no frames and no grant. -/
theorem resetAssertionEndsEverything : Obligations.ResetAssertionEndsEverything := by
  intro s
  have low : (onResetAssertion s).phase ≠ .running := Phase.noConfusion
  have dark : (onResetAssertion s).framesRun = false := State.framesRun_of_clock ClockState.noConfusion
  exact ⟨onResetAssertion s, rfl, fun x => Ports.get_map _ _ x, rfl,
    fun x => ⟨State.ready_of_phase low x, State.atnLow_of_not_ready (State.ready_of_phase low x)⟩,
    State.videoOut_blank dark, State.arbiterPick_of_phase low⟩

/-! #### The frame start -/

/-- Once the power-on clear is over, whether a frame start comes is a matter of the clock (R151, R152). -/
theorem onFrameStart_of_phase (h : s.phase = .running) (o : LatchOrder) :
    onFrameStart o s = if s.clock = .locked then s.frameStart o else s := by
  simp [onFrameStart, State.framesRun, h]

/-- With the clock LOCKED, it is a matter of the phase (R149, R152). -/
theorem onFrameStart_of_clock (h : s.clock = .locked) (o : LatchOrder) :
    onFrameStart o s = if s.phase = .running then s.frameStart o else s := by
  simp [onFrameStart, State.framesRun, h]

/-- A frame start of the ports: every waiting flag is cleared, and nothing else (R105). -/
theorem State.frameStart_ports (s : State) (o : LatchOrder) :
    (s.frameStart o).ports = s.ports.map fun p => { p with waiting := false } := by
  cases o <;> rfl

theorem State.frameStart_port (s : State) (o : LatchOrder) (x : Port) :
    (s.frameStart o).port x = { s.port x with waiting := false } := by
  simp [State.port, State.frameStart_ports]

/-- What a frame start leaves, block by block (R152). -/
theorem State.frameStart_eq (s : State) (o : LatchOrder) :
    s.frameStart o = { s with
      panes := (s.frameStart o).panes, shownPanes := (s.frameStart o).shownPanes
      shownStack := s.stack, marks := (s.frameStart o).marks
      shownPalette := s.palette, shownRamp := s.ramp, shownStaleColour := s.staleColour
      blink := (s.frameStart o).blink, shownCursor := s.cursor
      ports := (s.frameStart o).ports, shownTiming := s.timing
      frameCount := s.frameCount + 1
      clock := if s.timing.preset = s.shownTiming.preset then s.clock else .locking } := by
  by_cases h : s.timing.preset = s.shownTiming.preset <;> cases o <;>
    simp only [State.frameStart, State.latchPanes, State.latchAndAge, State.latchColours,
      State.ageMarks, State.latchCursor, State.blinkFrame, State.clearWaiting, State.latchTiming,
      State.countFrame, h, if_true, if_false]

/-- A frame start makes no port ready, and none not ready (R189). -/
theorem State.frameStart_ready (s : State) (o : LatchOrder) (x : Port) :
    (s.frameStart o).ready x = s.ready x := by
  simp only [State.ready, State.frameStart_port]
  rw [State.frameStart_eq]

/-- Settles O7: each block's action is said by its own lemma, and `State.frameStart_eq` is the frame. -/
theorem frameStartActsInEveryBlock : Obligations.FrameStartActsInEveryBlock := by
  refine ⟨fun o s hrun => ?_, fun o s hstop => ?_⟩
  · obtain ⟨panes, -⟩ := s.frameStart_order o
    obtain ⟨marks, -, -⟩ := s.frameStart_marks o
    have locked : s.clock = .locked := by
      simp only [State.framesRun, Bool.and_eq_true, decide_eq_true_eq] at hrun
      exact hrun.1
    refine ⟨s.frameStart o, exec_frameStart_running hrun o, rfl,
      fun p => ⟨s.shownPane_frameStart o p, panes p⟩, marks, ?_, s.frameStart_port o, ?_⟩
    · rw [State.frameStart_blink]
      rfl
    · rw [← locked]
      exact s.frameStart_eq o
  · exact next_arbitrate_congr (onFrameStart_stopped hstop o)

/-! #### The clear, the lock and its loss -/

/-- A reset plane reads the reset cell everywhere, after a frame start too (R14). -/
theorem State.cell_of_plane_nil (h : s.plane = []) (a : Nat) : s.cell a = resetCell := by
  rw [State.cell, h]
  rfl

/-- LOSS_OF_LOCK sets CLOCK in a port and nothing else of its record (R205). -/
theorem PortState.clockFault_eq (p : PortState) :
    p.clockFault = { p with
      faults := { p.faults with sticky := { p.faults.sticky with clock := true } } } := rfl

theorem PortState.clockFault_any (p : PortState) : p.clockFault.faults.sticky.any = true := by
  simp [PortState.clockFault_eq, Sticky.any]

/-- Settles O5: the end of the clear and the lock are a frame start where the other has come already. -/
theorem clockLocksAndLosesLock : Obligations.ClockLocksAndLosesLock := by
  refine ⟨⟨fun o s hclear => ?_, fun o s hlocking => ?_, fun o s hnot => ?_, fun o s hnot => ?_⟩,
    fun s hlocked => ?_, fun s hnot => ?_⟩
  · set cleared : State := { s with phase := .running, plane := [] } with hcleared
    refine ⟨if s.clock = .locked then cleared.frameStart o else cleared, ?_, rfl, ?_, ?_⟩
    · rw [← onFrameStart_of_phase (s := cleared) rfl]
      exact next_arbitrate_congr (if_pos hclear)
    · intro a
      refine State.cell_of_plane_nil ?_ a
      split
      · exact (cleared.frameStart_stores o).1
      · rfl
    · intro awake x hfree
      have ready : cleared.ready x = true := by
        simp [State.ready, hcleared, awake, State.port]
        exact hfree
      split
      · rw [State.frameStart_ready, ready]
      · exact ready
  · rw [← onFrameStart_of_clock (s := { s with clock := .locked }) rfl]
    exact next_arbitrate_congr (if_pos hlocking)
  · exact next_arbitrate_congr (if_neg hnot)
  · exact next_arbitrate_congr (if_neg hnot)
  · have lost : onLossOfLock s =
        { s with clock := .locking, ports := s.ports.map PortState.clockFault } := if_pos hlocked
    have port : ∀ x, (onLossOfLock s).port x = (s.port x).clockFault := fun x => by
      rw [lost]
      exact Ports.get_map _ _ x
    refine ⟨onLossOfLock s, rfl, port, ?_, fun x => State.atnLow_of_flag ?_,
      State.videoOut_blank (State.framesRun_of_clock ?_)⟩
    · rw [lost]
    · rw [port]
      exact PortState.clockFault_any _
    · rw [lost]
      exact ClockState.noConfusion
  · exact congrArg Host.Outcome.next (if_neg hnot)

/-! #### The retry timer, WAKE and standby -/

/-- What CLEAR does to a port (R199). -/
theorem PortState.clearFaults_eq (clock : ClockState) (p : PortState) :
    p.clearFaults (decide (clock = .locked)) = { p with
      clip := false
      faults := { p.faults with
        sticky := { Sticky.clear with clock := p.faults.sticky.clock && clock ≠ .locked }
        lastRefusal := none, condition := .running, retry := none } } := by
  simp [PortState.clearFaults]

/-- A low on WAKE is timed once the power-on clear is over, outside standby (R202). -/
theorem State.wakeTimed_iff :
    (decide (s.phase = .running) && !s.standby) = true ↔ s.phase = .running ∧ s.standby = false := by
  simp

theorem State.not_wakeTimed (h : s.phase ≠ .running ∨ s.standby = true) :
    ¬(decide (s.phase = .running) && !s.standby) = true := fun timed => by
  obtain ⟨running, awake⟩ := State.wakeTimed_iff.mp timed
  rcases h with h | h
  · exact h running
  · simp [awake] at h

/-- RETRY_EXPIRY reaches a PAUSED port whose timer runs (R197). -/
theorem onRetryExpiry_eq (x : Port) (s : State) :
    onRetryExpiry x s =
      if (s.port x).faults.condition = .paused ∧ (s.port x).faults.retry ≠ none then
        s.setPort x { s.port x with
          faults := { (s.port x).faults with condition := .running, retry := none } }
      else s := by
  simp only [onRetryExpiry, State.updPort_eq, Bool.and_eq_true, decide_eq_true_eq,
    Option.isSome_iff_ne_none]
  split
  · rfl
  · exact State.setPort_port s x

/-- Settles O51: each of the four line events, where it can come and where it cannot. -/
theorem retryWakeAndStandby : Obligations.RetryWakeAndStandby := by
  refine ⟨⟨fun s x => ?_, fun s hrun hawake => ?_, fun s hnot => ?_⟩, fun s hrun hawake => ?_,
    fun s hnot => ?_, fun s hstandby => ⟨?_, fun hrun x => ?_⟩, fun s hawake => ?_⟩
  · exact next_arbitrate_congr (onRetryExpiry_eq x s)
  · refine ⟨{ s with ports := s.ports.map (PortState.clearFaults (decide (s.clock = .locked))) },
      next_arbitrate_congr (if_pos (State.wakeTimed_iff.mpr ⟨hrun, hawake⟩)),
      fun x => ?_, rfl⟩
    exact (Ports.get_map _ _ x).trans (PortState.clearFaults_eq s.clock (s.port x))
  · exact next_arbitrate_congr (if_neg (State.not_wakeTimed hnot))
  · have deaf := State.ready_of_standby (s := { s with
      standby := true, clock := .stopped, ports := s.ports.map PortState.discardOpen }) rfl
    exact ⟨_, congrArg Host.Outcome.next (if_pos (State.wakeTimed_iff.mpr ⟨hrun, hawake⟩)),
      fun x => Ports.get_map _ _ x, rfl, fun x => ⟨deaf x, State.atnLow_of_not_ready (deaf x)⟩⟩
  · exact congrArg Host.Outcome.next (if_neg (State.not_wakeTimed hnot))
  · exact congrArg Host.Outcome.next (if_pos hstandby)
  · simp only [State.ready, hrun]
    rfl
  · exact congrArg Host.Outcome.next (if_neg (by simp [hawake]))

end Sys2Proof.Machine
end

section
/-! ### The status words (R114, R187, R188, R209) -/

namespace Sys2Proof.Machine

/-- A refusal code fits the three bits of its field (R209). -/
theorem refusalNumber_lt (code : Option RefusalCode) : refusalNumber code < 8 := by
  match code with
  | none => decide
  | some c => cases c <;> decide

/-- DRAIN, part by part (R114). -/
theorem State.drain_iff (s : State) (x : Port) :
    s.drain x = true ↔ (s.port x).queue = [] ∧ (∀ f, s.flight = some f → f.port ≠ x) ∧
      (s.port x).waiting = false := by
  cases hf : s.flight with
  | none => simp [State.drain, hf]
  | some f =>
    simp [State.drain, hf]
    tauto

/-- Settles O11: each field of the contents is read back alone, the others standing in other bits. -/
theorem statusWordsCarryTheirFields : Obligations.StatusWordsCarryTheirFields := by
  intro s x hreply
  refine ⟨⟨parityGood_mkWord _, ?_⟩, parityGood_mkWord _, ?_, ?_⟩
  · rw [← State.drain_iff]
    have h14 := (s.port x).faults.sticky.any.toNat_le
    have h13 := (decide ((s.port x).faults.condition = .halted)).toNat_le
    have h12 := (decide ((s.port x).faults.condition = .paused)).toNat_le
    have h11 := (s.drain x).toNat_le
    have h10 := (s.port x).faults.sticky.clock.toNat_le
    have h9 := (s.port x).clip.toNat_le
    simp only [State.statusA, bitOf_eq]
    refine ⟨?_, ?_, ?_, Bool.eq_iff_iff.mp ?_, ?_, ?_, ?_⟩
    case refine_7 =>
      rw [field_mkWord_low _ _ (by omega)]
      omega
    all_goals
      rw [flagBit_mkWord _ _ (by omega)]
      exact eq_decide_of_toNat (by omega)
  · have free : (s.port x).freeWords = 128 - (s.port x).wordsHeld := rfl
    rw [State.statusB, field_mkWord_low _ _ (by omega), free]
    omega
  · have free : (s.port x).freeWords = 128 - (s.port x).wordsHeld := rfl
    have := refusalNumber_lt (s.port x).faults.lastRefusal
    rw [State.statusB, field_mkWord _ _ _ (by omega), free]
    omega

end Sys2Proof.Machine
end

section
/-! ### The arbiter's rotation (R88-R91) -/

namespace Sys2Proof.Machine

variable {s : State} {x : Port}

/-- The room a transfer's reply needs, as a condition on the two commands that reply (R88). -/
theorem replyNeed_le_iff (o : Option Command) (room : Nat) :
    replyNeed o ≤ room ↔
      (∀ p row col n, o = some (.readCells p row col n) → 1 ≤ n → n ≤ 32 → 2 * n ≤ room) ∧
        ∀ b slot code, o = some (.readGlyph b slot code) → 8 ≤ room := by
  match o with
  | none => simp [replyNeed]
  | some c =>
    cases c
    case readCells p row col n =>
      by_cases hn : 1 ≤ n ∧ n ≤ 32
      · simp only [replyNeed, if_pos hn]
        refine ⟨fun h => ⟨fun _ _ _ _ e _ _ => ?_, fun _ _ _ e => nomatch e⟩,
          fun h => h.1 p row col n rfl hn.1 hn.2⟩
        cases e
        exact h
      · simp only [replyNeed, if_neg hn]
        refine iff_of_true (Nat.zero_le room) ⟨fun _ _ _ _ e h1 h32 => ?_, fun _ _ _ e => nomatch e⟩
        cases e
        exact absurd ⟨h1, h32⟩ hn
    all_goals simp [replyNeed]

/-- Eligibility, spelled out (R88). -/
theorem State.eligible_iff :
    s.eligible x = true ↔
      s.phase = .running ∧ (s.port x).faults.condition = .running ∧ (s.port x).waiting = false ∧
        ∃ t rest, (s.port x).queue = t :: rest ∧ replyNeed (decodeCommand t) ≤ (s.port x).room := by
  refine ⟨State.eligible_facts, fun ⟨phase, condition, waiting, t, rest, queue, room⟩ => ?_⟩
  simp [State.eligible, queue, phase, condition, waiting, room]

/-- The first eligible port after the pointer is the one picked (R90). -/
theorem State.arbiterPick_of_first (hflight : s.flight = none) (hx : s.eligible x = true)
    (first : x = Port.after s.grantPtr ∨
      (x = Port.after (Port.after s.grantPtr) ∧ s.eligible (Port.after s.grantPtr) = false) ∨
      (x = s.grantPtr ∧ s.eligible (Port.after s.grantPtr) = false ∧
        s.eligible (Port.after (Port.after s.grantPtr)) = false)) :
    s.arbiterPick = some x := by
  rcases first with rfl | ⟨rfl, hnot⟩ | ⟨rfl, hnot, hnot'⟩ <;>
    simp [State.arbiterPick, *]

/-- A grant of a transfer that carries a command begins it (R87, R89). -/
theorem grantTo_of_decode {t : List Word} {rest : List (List Word)} {c : Command}
    (hq : (s.port x).queue = t :: rest) (hc : decodeCommand t = some c) :
    grantTo x s = beginCommand x c (s.granted x t rest c) := by
  simp only [grantTo, hq, hc]

/-- Settles O21: the pick is the first eligible port, and a search is its grant and the next search. -/
theorem arbiterGrantsInRotation : Obligations.ArbiterGrantsInRotation := by
  refine ⟨fun s x => ?_, fun s x t rest c hflight hx hq hc first => ?_, fun s hnone => ?_⟩
  · simp only [State.eligible_iff, replyNeed_le_iff]
  · show Host.Outcome.next s.arbitrate = _
    rw [State.arbitrate_of_some (State.arbiterPick_of_first hflight hx first), grantTo_of_decode hq hc]
    rfl
  · have idle := State.arbitrate_of_none (State.arbiterPick_eq_none hnone)
    exact ⟨congrArg Host.Outcome.next idle, idle⟩

end Sys2Proof.Machine
end

section
/-! ### Commands on a port served at once: the whole row, and the settings (R87, R105, R130, R135, R138,
R142) -/

namespace Sys2Proof.Machine

variable {s t : State} {i : Instr} {x : Port} {c : Command}

/-- Settles O23. -/
theorem wholeCommandIsCarriedOut : Obligations.WholeCommandIsCarriedOut :=
  fun _ _ _ _ hi hc hfree => exec_of_freeFor hi hc hfree

/-- The period BLINK takes, by the three ranges of its argument (R138). -/
theorem blinkPeriod_ranges (period : Nat) :
    EvenPeriod (blinkPeriod period) ∧
      (2 ≤ period → period ≤ 254 → blinkPeriod period = period - period % 2) ∧
      (period < 2 → blinkPeriod period = 2) ∧ (254 < period → blinkPeriod period = 254) := by
  unfold EvenPeriod blinkPeriod
  omega

/-- WAIT sets the waiting flag and nothing else: it has no reply, and completes in its grant (R105). -/
theorem exec_wait (hfree : s.freeFor x .wait = true) :
    exec (.wait x) s =
      .next ((s.delivered x .wait).updPort x fun q => { q with waiting := true }) := by
  rw [exec_of_freeFor (c := .wait) rfl rfl hfree, State.begun_eq, beginCommand, startCommand,
    State.completeIfDone_nil x rfl rfl, finishFlight_none rfl]
  refine congrArg Host.Outcome.next (State.complete_idle
    (s := (s.delivered x .wait).updPort x fun q => { q with waiting := true })
    (State.servedAtOnce hfree).idle ?_)
  simp only [State.port_updPort_same]
  exact State.delivered_setClip_reserved s x .wait false

/-- What a CURSOR that passes its checks finds (R141). -/
theorem State.cursor_passes {p : PaneId} {row col startScan endScan : Nat} {mode : Fin 4}
    (h : s.verdict x (.cursor p row col startScan endScan mode) = none) :
    s.owns x p = true ∧ mode ≠ 3 ∧ (s.cursor.mode ≠ .off && s.holder ≠ some x) = false := by
  have checks := State.checks_passed h
  simp only [State.checks, Command.ownerPane, List.cons_append, List.nil_append, List.mem_cons,
    List.not_mem_nil, or_false, forall_eq_or_imp, forall_eq, decide_eq_false_iff_not] at checks
  obtain ⟨owner, mode3, busy⟩ := checks
  exact ⟨State.owns_of_owner (not_not.mp owner), mode3, busy⟩

/-- A CURSOR that is taken writes the record and the holder (R142). -/
theorem engineCursor_taken {p : PaneId} {row col startScan endScan : Nat} {mode : Fin 4}
    (h : s.verdict x (.cursor p row col startScan endScan mode) = none) :
    engineCursor x p row col startScan endScan mode s = { s with
      cursor := ⟨p, row, col, startScan, endScan,
        if mode = 0 then .off else if mode = 1 then .steady else .blink⟩
      holder := if mode = 0 then none else some x } := by
  obtain ⟨owner, mode3, busy⟩ := State.cursor_passes h
  simp only [engineCursor, owner, busy]
  match mode with
  | 0 | 1 | 2 => rfl
  | 3 => exact absurd rfl mode3

/-- Settles O47: each setting is its one event on the delivered state. -/
theorem settingsAndCursor : Obligations.SettingsAndCursor := by
  refine ⟨fun s x => ⟨fun i r g b hw hfree => ?_, fun i hfree => ?_, fun period hw hfree => ?_, exec_wait⟩,
    fun s x p row col startScan endScan mode hw hfree hv => ?_⟩
  · refine ⟨{ s.delivered x (.palette i r g b) with palette := s.palette.set i.val ⟨r, g, b⟩ i.isLt },
      exec_of_one_event rfl hw hfree rfl rfl rfl rfl, fun j => ?_, rfl⟩
    simp only [Fin.getElem_fin, Vector.getElem_set, Fin.val_inj, eq_comm]
  · exact exec_of_one_event (c := .staleColour i)
      (t := { s.delivered x (.staleColour i) with staleColour := i }) rfl rfl hfree rfl rfl rfl rfl
  · exact ⟨blinkPeriod period, exec_of_one_event rfl hw hfree rfl rfl rfl rfl,
      blinkPeriod_ranges period⟩
  · exact exec_of_one_event rfl hw hfree rfl (engineCursor_taken hv) rfl rfl

end Sys2Proof.Machine
end

section
/-! ### A transfer word by word (R172-R178, R183, R195)

What a sampled word and the rising edge make of a port, said once for each destination of the word. -/

namespace Sys2Proof.Machine

variable {s : State} {x : Port} {p : PortState} {o : OpenTransfer} {w : Word}

/-! #### A fault event beside a transfer -/

/-- A LINK fault reads and changes the fault record and the queue alone. -/
theorem PortState.linkFault_withOpen (p : PortState) (flags : List Flag) (open' : Option OpenTransfer) :
    { p with openT := open' }.linkFault flags = { p.linkFault flags with openT := open' } := by
  rw [PortState.linkFault, PortState.linkFault]
  cases p.faults.linkMode <;> rfl

@[simp] theorem PortState.linkFault_sent (p : PortState) (flags : List Flag) :
    (p.linkFault flags).sent = p.sent := by
  rw [PortState.linkFault, FaultMode.act_frame]

/-! #### The in word -/

/-- An overrun transfer ignores its words (R176). -/
theorem PortState.takeIn_ignored (h : o.overrun = true) : p.takeIn o w = p := by
  simp [PortState.takeIn, h]

section Taken

variable (h : o.overrun = false)

include h

/-- A word for the queue joins it while it has room (R176). -/
theorem PortState.takeIn_queue (hd : (o.read w).destination = some .queue) (room : p.wordsHeld < 128) :
    p.takeIn o w = { p with openT := some { o.read w with
      words := (o.read w).words + 1, queued := (o.read w).queued ++ [w] } } := by
  have : ¬ Config.queueWords ≤ p.wordsHeld := Nat.not_le.mpr room
  simp only [PortState.takeIn, h, hd, this, if_false, Bool.false_eq_true]

/-- A word that finds the queue full makes the transfer overrun (R176; log 31). -/
theorem PortState.takeIn_overruns (hd : (o.read w).destination = some .queue)
    (full : 128 ≤ p.wordsHeld) :
    p.takeIn o w =
      { p with openT := some { o.read w with overrun := true, queued := [] } }.linkFault [.overrun] := by
  have : Config.queueWords ≤ p.wordsHeld := full
  simp only [PortState.takeIn, h, hd, this, if_true, if_false, Bool.false_eq_true]

/-- A word of a service transfer is counted, and one of the first two is held (R175). -/
theorem PortState.takeIn_assembler (hd : (o.read w).destination = some .assembler) :
    p.takeIn o w = { p with openT := some { o.read w with
      words := (o.read w).words + 1
      heldWords := if (o.read w).heldWords.length < 2 then (o.read w).heldWords ++ [w]
        else (o.read w).heldWords } } := by
  simp only [PortState.takeIn, h, hd, if_false, Bool.false_eq_true]

end Taken

/-- What the header of a transfer says of it, and what it decides of a later word (R173, R175, R183). -/
theorem OpenTransfer.read_first (h : o.header = none) :
    o.read w = { o with
      header := some w
      destination := some (if isService (headerCode w) then .assembler else .queue)
      paritySeen := !parityGood w } := by
  simp only [OpenTransfer.read, h]

theorem OpenTransfer.read_later {hd : Word} (h : o.header = some hd) :
    o.read w = { o with
      paritySeen := o.paritySeen || (headerCode hd ≠ 1 && !parityGood w) } := by
  simp only [OpenTransfer.read, h]

/-! #### The out word -/

/-- A FETCH code is a service code, so an engine transfer shifts no reply word (R175, R183). -/
theorem headerCode_ne_fetch {h : Word} (hs : isService (headerCode h) = false) : headerCode h ≠ 1 :=
  fun e => absurd (e ▸ hs) (by decide)

theorem OpenTransfer.fetches_eq {h : Word} (hh : o.header = some h) :
    o.fetches = (decide (headerCode h = 1) && parityGood h) := by
  simp only [OpenTransfer.fetches, hh]

theorem OpenTransfer.fetches_of_code {h : Word} (hh : o.header = some h) (hcode : headerCode h ≠ 1) :
    o.fetches = false := by
  simp [OpenTransfer.fetches_eq hh, hcode]

/-- After status word A comes status word B, then fillers, in a transfer that fetches nothing (R174). -/
theorem PortState.chooseOut_plain (hp : p.openT = some o) (hf : o.fetches = false) :
    p.chooseOut = { p with openT := some { o with
      outWord := if p.sent.length = 1 then o.statusB else fillerWord, outReply := false } } := by
  simp only [PortState.chooseOut, hp, hf]
  split <;> simp_all

/-- The same beside a LINK fault, which has no part in the choice. -/
theorem PortState.chooseOut_linkFault (flags : List Flag) (hp : p.openT = some o)
    (hf : o.fetches = false) :
    (p.linkFault flags).chooseOut = { p with openT := some { o with
      outWord := if p.sent.length = 1 then o.statusB else fillerWord
      outReply := false } }.linkFault flags := by
  rw [PortState.chooseOut_plain ((p.linkFault_openT flags).trans hp) hf]
  simp only [PortState.linkFault_withOpen, PortState.linkFault_sent]

/-- A FETCH shifts its reply words after the two status words, and empty markers after them (R183). -/
theorem PortState.chooseOut_fetch (hp : p.openT = some o) (hf : o.fetches = true) :
    p.chooseOut = { p with openT := some { o with
      outWord := if p.sent.length = 1 then o.statusB else p.reply.head?.getD emptyMarker
      outReply := p.sent.length ≠ 1 && !p.reply.isEmpty } } := by
  simp only [PortState.chooseOut, hp, hf]
  split
  · simp [*]
  · cases p.reply <;> simp [*]

/-! #### WORD_SAMPLED -/

/-- What a sampled word makes of a port with a transfer open. -/
theorem PortState.sampled_open (ho : p.openT = some o) :
    p.sampled w = ((p.shiftOut o).takeIn o w).chooseOut := by
  simp only [PortState.sampled, ho]

/-- The row of a word, on a ready port with a transfer open. -/
theorem exec_wordSampled (hr : s.ready x = true) (q : PortState) (h : (s.port x).sampled w = q) :
    exec (.wordSampled x w) s = .next (s.setPort x q).arbitrate := by
  refine next_arbitrate_congr ?_
  rw [onWordSampled_eq, if_pos hr, h]

/-- A word that joins the queue: the header, or a later one (R175, R176). -/
theorem PortState.sampled_queue {h : Word} (ho : p.openT = some o) (hout : o.outReply = false)
    (hrun : o.overrun = false) (hd : (o.read w).destination = some .queue)
    (hh : (o.read w).header = some h) (hcode : headerCode h ≠ 1) (room : p.wordsHeld < 128) :
    p.sampled w = { p with
      sent := p.sent ++ [o.outWord]
      openT := some { o.read w with
        words := (o.read w).words + 1, queued := (o.read w).queued ++ [w]
        outWord := if (p.sent ++ [o.outWord]).length = 1 then (o.read w).statusB else fillerWord
        outReply := false } } := by
  rw [PortState.sampled_open ho, PortState.takeIn_queue hrun hd (by exact room),
    PortState.chooseOut_plain rfl (OpenTransfer.fetches_of_code (by exact hh) hcode)]
  simp only [PortState.shiftOut, hout]
  rfl

/-- A word that makes the transfer overrun (R176). -/
theorem PortState.sampled_overruns {h : Word} (ho : p.openT = some o) (hout : o.outReply = false)
    (hrun : o.overrun = false) (hd : (o.read w).destination = some .queue)
    (hh : (o.read w).header = some h) (hcode : headerCode h ≠ 1) (full : 128 ≤ p.wordsHeld) :
    p.sampled w = { p with
      sent := p.sent ++ [o.outWord]
      openT := some { o.read w with
        overrun := true, queued := []
        outWord := if (p.sent ++ [o.outWord]).length = 1 then (o.read w).statusB else fillerWord
        outReply := false } }.linkFault [.overrun] := by
  rw [PortState.sampled_open ho, PortState.takeIn_overruns hrun hd (by exact full),
    PortState.chooseOut_linkFault _ rfl (OpenTransfer.fetches_of_code (by exact hh) hcode)]
  simp only [PortState.shiftOut, hout]
  rfl

/-- A word of a transfer that has overrun (R176). -/
theorem PortState.sampled_ignored (ho : p.openT = some o) (hout : o.outReply = false)
    (hrun : o.overrun = true) (hf : o.fetches = false) :
    p.sampled w = { p with
      sent := p.sent ++ [o.outWord]
      openT := some { o with
        outWord := if (p.sent ++ [o.outWord]).length = 1 then o.statusB else fillerWord
        outReply := false } } := by
  rw [PortState.sampled_open ho, PortState.takeIn_ignored hrun,
    PortState.chooseOut_plain (o := o) (by simpa [PortState.shiftOut] using ho) hf]
  simp only [PortState.shiftOut, hout]
  rfl

/-- Settles O13: the word joins, overruns or is ignored, each by its own lemma about the port. -/
theorem sampledWordJoinsTheQueue : Obligations.SampledWordJoinsTheQueue := by
  intro s x w
  refine ⟨fun hclosed => next_arbitrate_congr ?_, fun o sent out ho hr hout hsent hnext => ⟨?_, ?_⟩⟩
  · simp only [onWordSampled, hclosed]
  · intro hrun hnone hwords hqueued hengine
    have hcode := headerCode_ne_fetch hengine
    have hread := OpenTransfer.read_first (w := w) hnone
    have hd : (o.read w).destination = some .queue := by simp [hread, hengine]
    have hh : (o.read w).header = some w := by rw [hread]
    subst hsent hnext
    refine ⟨fun room => exec_wordSampled hr _ ?_, fun full => exec_wordSampled hr _ ?_⟩
    · rw [PortState.sampled_queue ho hout hrun hd hh hcode room, hread]
      simp [hengine, hwords, hqueued, hout]
    · rw [PortState.sampled_overruns ho hout hrun hd hh hcode full, hread]
      simp [hengine, hqueued, hout]
  · intro h hh hcode
    have hread := OpenTransfer.read_later (w := w) hh
    have hheader : (o.read w).header = some h := by rw [hread, hh]
    subst hsent hnext
    refine ⟨fun hrun hqueue => ?_, fun hrun => exec_wordSampled hr _ ?_⟩
    · have hd : (o.read w).destination = some .queue := by rw [hread, hqueue]
      refine ⟨fun room => exec_wordSampled hr _ ?_, fun full => exec_wordSampled hr _ ?_⟩
      · rw [PortState.sampled_queue ho hout hrun hd hheader hcode room, hread]
        simp [hcode, hout]
      · rw [PortState.sampled_overruns ho hout hrun hd hheader hcode full, hread]
        simp [hcode, hout]
    · rw [PortState.sampled_ignored ho hout hrun (OpenTransfer.fetches_of_code hh hcode)]
      simp [hout]

/-! #### Service words -/

/-- A word of a service transfer under the header `h`: it is counted, and the next out word is chosen
(R174, R175, R183). -/
theorem PortState.sampled_service {h : Word} (ho : p.openT = some o) (hrun : o.overrun = false)
    (hd : (o.read w).destination = some .assembler) (hh : (o.read w).header = some h)
    {sent reply : List Word} (hsent : sent = p.sent ++ [o.outWord])
    (hreply : reply = if o.outReply then p.reply.tail else p.reply) :
    p.sampled w = { p with
      sent := sent
      reply := reply
      openT := some { o.read w with
        words := (o.read w).words + 1
        heldWords := if (o.read w).heldWords.length < 2 then (o.read w).heldWords ++ [w]
          else (o.read w).heldWords
        outWord := if sent.length = 1 then (o.read w).statusB
          else if headerCode h = 1 ∧ parityGood h = true then reply.head?.getD emptyMarker
          else fillerWord
        outReply := sent.length ≠ 1 && headerCode h = 1 && parityGood h && !reply.isEmpty } } := by
  subst hsent hreply
  rw [PortState.sampled_open ho, PortState.takeIn_assembler hrun hd]
  have hf : (o.read w).fetches = (decide (headerCode h = 1) && parityGood h) :=
    OpenTransfer.fetches_eq hh
  by_cases fetch : headerCode h = 1 ∧ parityGood h = true
  · rw [PortState.chooseOut_fetch rfl (by exact hf.trans (by simp [fetch]))]
    simp [PortState.shiftOut, fetch]
  · rw [PortState.chooseOut_plain rfl (by exact hf.trans (by simpa using fetch))]
    have : (decide (headerCode h = 1) && parityGood h) = false := by simpa using fetch
    simp [PortState.shiftOut, fetch, Bool.and_assoc, this]

/-- Settles O14: the header's own word and a later word are the two ways to read one. -/
theorem sampledServiceWordIsCounted : Obligations.SampledServiceWordIsCounted := by
  intro s x w h o sent reply ho hr hrun hservice hsent hreply place
  refine exec_wordSampled hr _ ?_
  rcases place with ⟨hnone, rfl, hwords, hheld, hparity⟩ | ⟨hh, hd⟩
  · have hread := OpenTransfer.read_first (w := h) hnone
    rw [PortState.sampled_service ho hrun (by simp [hread, hservice]) (by rw [hread]) hsent hreply, hread]
    simp [hservice, hnone, hparity]
  · have hread := OpenTransfer.read_later (w := w) hh
    rw [PortState.sampled_service ho hrun (by rw [hread, hd]) (by rw [hread, hh]) hsent hreply, hread]
    simp [hh, hd, Bool.and_comm]

/-! #### The rising edge -/

/-- The bits of an out word that have crossed SDO_x, most significant first (R173). -/
theorem firstBits_eq (w : Word) (k : Fin 16) :
    firstBits w k.val = (List.range k.val).map fun i => w.getLsbD (15 - i) := by
  refine List.map_congr_left fun i hi => ?_
  have : i < 16 := (List.mem_range.mp hi).trans k.isLt
  simp [BitVec.getMsbD, this]

/-- The row of a rising edge that ends a transfer. -/
theorem exec_transferEnd_open (k : Fin 16) (hlow : (s.port x).selLow = true)
    (ho : (s.port x).openT = some o) (q : PortState)
    (h : PortState.endTransfer
      { s.port x with selLow := false, sentBits := firstBits o.outWord k.val }
      (decide (s.clock = .locked)) { o with partialBits := k.val } = q) :
    exec (.transferEnd x k) s = .next (s.setPort x q).arbitrate := by
  subst h
  refine next_arbitrate_congr ?_
  simp only [onTransferEnd, hlow, Bool.not_true, if_false, Bool.false_eq_true, State.updPort_eq, ho]

/-- An overrun transfer just ends (R176). -/
theorem PortState.endTransfer_overrun (locked : Bool) (h : o.overrun = true) :
    p.endTransfer locked o = { p with openT := none } := by
  simp only [PortState.endTransfer, h, if_true]
  rfl

/-- A bad transfer raises its LINK flags (R177). -/
theorem PortState.endTransfer_bad (locked : Bool) (h : o.overrun = false) (hbad : o.linkFlags ≠ []) :
    p.endTransfer locked o = { p with openT := none }.linkFault o.linkFlags := by
  have : o.linkFlags.isEmpty = false := by simpa using hbad
  simp only [PortState.endTransfer, h, this, Bool.false_eq_true, if_false, Bool.not_false, if_true]
  rfl

/-- A transfer without a header that is not bad just ends. -/
theorem PortState.endTransfer_headless (locked : Bool) (h : o.overrun = false)
    (hgood : o.linkFlags = []) (hh : o.header = none) :
    p.endTransfer locked o = { p with openT := none } := by
  simp only [PortState.endTransfer, h, hgood, hh, List.isEmpty_nil, Bool.not_true, Bool.false_eq_true,
    if_false]
  rfl

/-- A good engine transfer joins the queue, or is removed on a HALTED port (R178). -/
theorem PortState.endTransfer_queue {h : Word} (locked : Bool) (hrun : o.overrun = false)
    (hgood : o.linkFlags = []) (hh : o.header = some h) (hd : o.destination = some .queue) :
    p.endTransfer locked o =
      if p.faults.condition = .halted then { p with openT := none }
      else { p with openT := none, queue := p.queue ++ [o.queued] } := by
  simp only [PortState.endTransfer, hrun, hgood, hh, hd, List.isEmpty_nil, Bool.not_true,
    Bool.false_eq_true, if_false, if_true]
  rfl

/-- A good service transfer is taken (R178). -/
theorem PortState.endTransfer_service {h : Word} (locked : Bool) (hrun : o.overrun = false)
    (hgood : o.linkFlags = []) (hh : o.header = some h) (hd : o.destination = some .assembler) :
    p.endTransfer locked o =
      { p with openT := none }.takeService locked (headerCode h) o.heldWords := by
  simp [PortState.endTransfer, PortState.discardOpen, hrun, hgood, hh, hd]

/-- The LINK flags of a transfer, spelled out (R177). -/
theorem OpenTransfer.linkFlags_eq (o : OpenTransfer) (k : Nat) :
    { o with partialBits := k }.linkFlags =
      (if k ≠ 0 then [.framing] else []) ++ (if o.paritySeen then [.parity] else []) ++
        (if o.header.any (fun h => parityGood h && !countAllowed (headerCode h) o.words) then
          [.format] else []) := by
  unfold OpenTransfer.linkFlags OpenTransfer.badFormat
  cases o.header <;> rfl

/-- Settles O15: the flags are those of `OpenTransfer.linkFlags`, and each mode acts as R195 says. -/
theorem linkFaultActsByItsMode : Obligations.LinkFaultActsByItsMode := by
  intro s x o k p r flags hlow ho hrun hflags hbad hp hr
  rw [← OpenTransfer.linkFlags_eq] at hflags
  rw [← firstBits_eq] at hp
  refine exec_transferEnd_open k hlow ho _ ?_
  rw [PortState.endTransfer_bad (o := { o with partialBits := k.val }) _ hrun (hflags ▸ hbad), ← hflags]
  subst hr hp
  cases hm : (s.port x).faults.linkMode <;>
    simp [PortState.linkFault, FaultMode.act, FaultRecord.setFlags, FaultRecord.pause, hm]

/-- Settles O16: overrun, headless, engine and service transfers exclude each other. -/
theorem goodTransferIsTakenAtItsEnd : Obligations.GoodTransferIsTakenAtItsEnd := by
  intro s x
  refine ⟨fun hhigh k => next_arbitrate_congr ?_, fun hlow => ⟨fun hclosed k => ?_,
    fun o p ho hp => ⟨fun hrun k => ?_, fun hrun hh hparity => ?_, fun h hrun hh hparity hgood hcount =>
      ⟨fun hd => ?_, fun hd => ?_⟩⟩⟩⟩
  · simp only [onTransferEnd, hhigh, Bool.not_false, if_true]
  · refine next_arbitrate_congr ?_
    simp only [onTransferEnd, hlow, Bool.not_true, Bool.false_eq_true, if_false, State.updPort_eq,
      hclosed]
  · refine exec_transferEnd_open k hlow ho _ ?_
    rw [PortState.endTransfer_overrun _ (by exact hrun), firstBits_eq, hp]
  · refine exec_transferEnd_open 0 hlow ho _ ?_
    rw [PortState.endTransfer_headless _ (by exact hrun)
      (by rw [OpenTransfer.linkFlags_eq]; simp [hh, hparity]) (by exact hh), hp]
    rfl
  · refine exec_transferEnd_open 0 hlow ho _ ?_
    rw [PortState.endTransfer_queue _ (by exact hrun)
      (by rw [OpenTransfer.linkFlags_eq]; simp [hh, hparity, hcount]) (by exact hh) (by exact hd), hp]
    rfl
  · refine exec_transferEnd_open 0 hlow ho _ ?_
    rw [PortState.endTransfer_service _ (by exact hrun)
      (by rw [OpenTransfer.linkFlags_eq]; simp [hh, hparity, hcount]) (by exact hh) (by exact hd), hp]
    rfl

end Sys2Proof.Machine
end

section
/-! ### Whole transfers (R172-R178, R183, R189)

A row that is a whole transfer, on a port that is deaf, and on one where nobody is granted meanwhile. -/

namespace Sys2Proof.Machine

variable {s : State} {x : Port}

/-! #### A deaf port (R189) -/

/-- A transfer that changes nothing of the command in flight leaves its command in the queue. -/
theorem sendCommand_of_flight {c : Command}
    (h : (sendWords x (encodeCommand c) s).flight = s.flight) :
    sendCommand x c s = .next (sendWords x (encodeCommand c) s) := by
  simp only [sendCommand, h]
  refine if_neg fun both => ?_
  simp only [Bool.and_eq_true, Option.isNone_iff_eq_none, decide_eq_true_eq] at both
  simp [both.1.1] at both

/-- A port that is not ready takes nothing of a transfer, and nobody is granted by it (R189). -/
theorem sendWords_deaf (hr : s.ready x = false) (ho : (s.port x).openT = none) (hs : s.ServedLaw)
    (ws : List Word) : sendWords x ws s = s := by
  unfold sendWords
  split
  · rfl
  rename_i hhigh
  have high : (s.port x).selLow = false := by simpa using hhigh
  set u := s.setPort x { s.port x with selLow := true } with hu
  have start : onTransferStart x s = u := by
    simp [onTransferStart, high, hr, hu]
  have quiet : u.arbitrate = u :=
    State.arbitrate_of_none
      ((s.arbiterPick_setPort x { s.port x with selLow := true } rfl rfl rfl rfl).trans hs)
  have words : ws.foldl (fun t w => (onWordSampled x w t).arbitrate) u = u := by
    induction ws with
    | nil => rfl
    | cons w ws ih =>
      have unsampled : onWordSampled x w u = u := by simp [onWordSampled, hu, ho]
      rw [List.foldl_cons, unsampled, quiet, ih]
  have ends : onTransferEnd x 0 u = s := by
    simp only [onTransferEnd, hu, State.port_setPort_same, State.updPort_eq, ho]
    have same : { s.port x with selLow := false, openT := none } = s.port x := by
      rw [← high, ← ho]
    simpa [ho] using (congrArg (s.setPort x) same).trans (s.setPort_port x)
  rw [start, words, ends, State.arbitrate_of_none hs]

/-- Settles O2: every row that is a transfer leaves the state that its words leave. -/
theorem deafPortTakesNothing : Obligations.DeafPortTakesNothing := by
  intro s x h
  have same : ∀ ws, sendWords x ws s = s := fun ws => by
    rcases h with low | ⟨hr, ho, hs⟩
    · exact if_pos low
    · exact sendWords_deaf hr ho hs ws
  refine ⟨fun i c hi => ?_, fun n => congrArg Host.Outcome.next (same _),
    congrArg Host.Outcome.next (same _), congrArg Host.Outcome.next (same _),
    congrArg Host.Outcome.next (same _), fun cls m => congrArg Host.Outcome.next (same _)⟩
  rw [exec_command hi, sendCommand_of_flight (by rw [same]), same]

/-! #### A port that becomes no more eligible -/

/-- `q` asks for no grant that `p` does not ask for: its queue is the same or empty, and it is RUNNING, awake
and has room only where `p` is and has (R88). -/
structure PortState.Quieter (q p : PortState) : Prop where
  queue : q.queue = p.queue ∨ q.queue = []
  running : q.faults.condition = .running → p.faults.condition = .running
  waiting : q.waiting = p.waiting
  room : q.room ≤ p.room

/-- A port replaced by a quieter one leaves nobody to grant where nobody was. -/
theorem PortState.Quieter.arbiterPick {q : PortState} (h : q.Quieter (s.port x))
    (hs : s.arbiterPick = none) : (s.setPort x q).arbiterPick = none := by
  refine State.arbiterPick_eq_none ((State.arbiterPick_none hs).imp_right fun idle y => ?_)
  by_cases hy : y = x
  · subst hy
    refine eq_false_of_ne_true fun he => ?_
    obtain ⟨phase, condition, waiting, t, rest, queue, room⟩ := State.eligible_facts he
    rw [State.port_setPort_same] at condition waiting queue room
    have same := h.queue.resolve_right fun none => by simp [none] at queue
    have : s.eligible y = true := State.eligible_iff.mpr
      ⟨phase, h.running condition, h.waiting ▸ waiting, t, rest, same ▸ queue, room.trans h.room⟩
    exact absurd (idle y) (by simp [this])
  · have same := State.port_setPort_other s q hy
    rw [← idle y]
    exact State.eligible_congr rfl (by rw [same]) (by rw [same]) (by rw [same]) (by rw [same])

/-- A LINK fault makes a port no more eligible: it pauses it, halts it, or leaves it (R195). -/
theorem PortState.Quieter.linkFault {q p : PortState} (h : q.Quieter p) (flags : List Flag) :
    (q.linkFault flags).Quieter p where
  queue := by
    rw [PortState.linkFault, FaultMode.act_queue]
    split
    · exact .inr rfl
    · exact h.queue
  running := fun hrun => h.running (by
    unfold PortState.linkFault at hrun
    by_cases hh : q.faults.condition = .halted <;> cases hm : q.faults.linkMode <;>
      simp_all [FaultMode.act, FaultRecord.setFlags, FaultRecord.pause])
  waiting := by
    rw [PortState.linkFault, FaultMode.act_frame]
    exact h.waiting
  room := by
    simpa [PortState.room] using h.room

/-! #### A transfer during which nobody is granted -/

/-- A ready port at the falling edge (R174). -/
def PortState.opened (p : PortState) (a b : Word) : PortState :=
  { p with selLow := true, sent := [], sentBits := [], openT := some (OpenTransfer.begun a b) }

/-- A whole transfer during which nobody is to be granted: its words sampled one by one, then the rising
edge, at which the arbiter searches (R91). -/
theorem sendWords_quiet {ws : List Word} {q r : PortState} {o : OpenTransfer} (hr : s.ready x = true)
    (hhigh : (s.port x).selLow = false)
    (quiet : ∀ k, (s.setPort x ((ws.take k).foldl (fun p w => p.sampled w)
      ((s.port x).opened (s.statusA x) (s.statusB x)))).arbiterPick = none)
    (run : ws.foldl (fun p w => p.sampled w) ((s.port x).opened (s.statusA x) (s.statusB x)) = q)
    (hlow : q.selLow = true) (ho : q.openT = some o)
    (hend : { q with selLow := false, sentBits := [] }.endTransfer (decide (s.clock = ClockState.locked))
      { o with partialBits := 0 } = r) :
    sendWords x ws s = (s.setPort x r).arbitrate := by
  set P := (s.port x).opened (s.statusA x) (s.statusB x) with hP
  have start : onTransferStart x s = s.setPort x P := by
    simp only [onTransferStart, hhigh, hr, if_true, if_false, Bool.false_eq_true]
    rfl
  have ready : (s.setPort x P).ready x = true := (State.ready_setPort s x (p := P) rfl).trans hr
  have words := foldl_sampled_served (s.setPort x P) x ws fun k _ => by
    rw [foldl_onWordSampled _ _ _ ready, State.port_setPort_same, State.setPort_setPort]
    exact quiet k
  rw [foldl_onWordSampled _ _ _ ready, State.port_setPort_same, State.setPort_setPort, run] at words
  unfold sendWords
  rw [if_neg (by simp [hhigh]), start, words]
  refine congrArg State.arbitrate ?_
  simp only [onTransferEnd, State.port_setPort_same, hlow, Bool.not_true, Bool.false_eq_true, if_false,
    State.updPort_eq, ho, State.setPort_setPort, State.setPort_clock]
  exact congrArg (s.setPort x) hend

/-! #### The words a transfer shifts out -/

/-- A list made as long as needed with a filler, word by word. -/
theorem take_append_replicate {α : Type} (l : List α) (d : α) (n : Nat) :
    (l ++ List.replicate n d).take n = (List.range n).map fun k => l[k]?.getD d := by
  refine List.ext_getElem (by simp) fun k hk hk' => ?_
  have : k < n := by simpa using hk'
  simp only [List.getElem_take, List.getElem_append, List.getElem_map, List.getElem_range]
  split
  · rename_i h
    simp [h]
  · rename_i h
    simp [List.getElem?_eq_none (Nat.le_of_not_lt h)]

/-- Beside a transfer that fetches nothing go the status words, then fillers (R174). -/
theorem shiftedWords_eq (a b : Word) (n : Nat) :
    shiftedWords a b n = (List.range n).map fun k => [a, b][k]?.getD fillerWord :=
  take_append_replicate [a, b] fillerWord n

/-- The out word that follows the one of an engine transfer that completes. -/
theorem outWord_succ (a b : Word) (n : Nat) :
    [a, b][n + 1]?.getD fillerWord = if n + 1 = 1 then b else fillerWord := by
  match n with
  | 0 => rfl
  | n + 1 => simp

end Sys2Proof.Machine
end

section
/-! ### A command that has to wait, or finds no room (R176, R178) -/

namespace Sys2Proof.Machine

variable {s : State} {x : Port} {P q : PortState} {a b h w : Word} {ws : List Word}

/-! #### A good engine transfer that cannot be served -/

/-- A transfer put at the tail of a queue that could not be served with it at its head makes nobody eligible. -/
theorem arbiterPick_queued {c : Command} {t : List Word} (hc : decodeCommand t = some c)
    (hs : s.ServedLaw)
    (unserved : s.flight ≠ none ∨ (s.port x).queue ≠ [] ∨ (s.port x).faults.condition ≠ .running ∨
      (s.port x).waiting = true ∨ (s.port x).room < replyNeed (some c))
    (hq : q = { s.port x with
      openT := q.openT, selLow := q.selLow, sent := q.sent, sentBits := q.sentBits
      queue := (s.port x).queue ++ [t] }) :
    (s.setPort x q).arbiterPick = none := by
  refine State.arbiterPick_eq_none (or_iff_not_imp_left.mpr fun idle y => ?_)
  have nobody := (State.arbiterPick_none hs).resolve_left idle
  by_cases hy : y = x
  · subst hy
    refine eq_false_of_ne_true fun he => ?_
    obtain ⟨phase, condition, waiting, t', rest, queue, room⟩ := State.eligible_facts he
    rw [State.port_setPort_same] at condition waiting queue room
    rw [hq] at condition waiting queue room
    cases hold : (s.port y).queue with
    | nil =>
      simp only [hold, List.nil_append, List.cons.injEq] at queue
      rw [← queue.1, hc] at room
      rcases unserved with busy | busy | busy | busy | busy
      · exact idle busy
      · exact busy hold
      · exact busy condition
      · exact absurd (busy.symm.trans waiting) (by simp)
      · exact absurd room (Nat.not_le.mpr busy)
    | cons u us =>
      simp only [hold, List.cons_append, List.cons.injEq] at queue
      have : s.eligible y = true := State.eligible_iff.mpr
        ⟨phase, condition, waiting, u, us, hold, queue.1 ▸ room⟩
      exact absurd (nobody y) (by simp [this])
  · have same := State.port_setPort_other s q hy
    rw [← nobody y]
    exact State.eligible_congr rfl (by rw [same]) (by rw [same]) (by rw [same]) (by rw [same])

/-! #### A transfer that overruns -/

/-- A LINK fault is the same whatever stands on the serial side of the port. -/
theorem PortState.linkFault_serial (p : PortState) (flags : List Flag) (openT : Option OpenTransfer)
    (selLow : Bool) (sent : List Word) (sentBits : List Bool) :
    { p with openT := openT, selLow := selLow, sent := sent, sentBits := sentBits }.linkFault flags =
      { p.linkFault flags with
        openT := openT, selLow := selLow, sent := sent, sentBits := sentBits } := by
  rw [PortState.linkFault, PortState.linkFault]
  cases p.faults.linkMode <;> rfl

/-- `q` is the port `P` after the words `ws` of an engine transfer have been clocked in, all of them queued. -/
structure PortState.Taken (P : PortState) (a b : Word) (ws : List Word) (q : PortState) : Prop where
  frame : q = { P with
    selLow := true, sentBits := [], sent := shiftedWords a b ws.length, openT := q.openT }
  opened : ∃ o, q.openT = some o ∧ o.overrun = false ∧ o.outReply = false ∧ o.queued = ws ∧
    o.statusB = b ∧ o.outWord = [a, b][ws.length]?.getD fillerWord ∧ o.header = ws.head? ∧
    (ws ≠ [] → o.destination = some .queue)

/-- `q` is the port `P` after `n` words of an engine transfer that has overrun among them. -/
structure PortState.Overrun (P : PortState) (a b : Word) (n : Nat) (q : PortState) : Prop where
  opened : ∃ o, q = { P.linkFault [.overrun] with
      selLow := true, sentBits := [], sent := shiftedWords a b n, openT := some o } ∧
    o.overrun = true ∧ o.outReply = false ∧ o.fetches = false ∧ o.statusB = b ∧
    o.outWord = [a, b][n]?.getD fillerWord

namespace PortState

/-- At the falling edge no word has been taken (R174). -/
theorem taken_opened (P : PortState) (a b : Word) : P.Taken a b [] (P.opened a b) :=
  ⟨rfl, _, rfl, rfl, rfl, rfl, rfl, rfl, rfl, fun hne => absurd rfl hne⟩

/-- What the next word of an engine transfer reads as: one for the queue, under the transfer's header. -/
theorem read_of_taken {o : OpenTransfer} (hh : o.header = ws.head?)
    (hd : ws ≠ [] → o.destination = some .queue)
    (hservice : ∀ h ∈ (ws ++ [w]).head?, isService (headerCode h) = false) :
    (o.read w).destination = some .queue ∧ (o.read w).header = (ws ++ [w]).head? ∧
      (o.read w).queued = o.queued ∧ (o.read w).statusB = o.statusB ∧
      (o.read w).overrun = o.overrun := by
  cases ws with
  | nil =>
    rw [OpenTransfer.read_first hh]
    have := hservice w rfl
    simp [this]
  | cons v ws =>
    rw [OpenTransfer.read_later hh]
    exact ⟨hd (by simp), hh, rfl, rfl, rfl⟩

theorem Taken.wordsHeld (ht : P.Taken a b ws q) :
    q.wordsHeld = (P.queue.map List.length).sum + ws.length := by
  obtain ⟨o, ho, -, -, hqueued, -⟩ := ht.opened
  rw [PortState.wordsHeld, ho, ht.frame]
  simp [hqueued]

theorem Taken.sent (ht : P.Taken a b ws q) : q.sent = shiftedWords a b ws.length := by
  rw [ht.frame]

/-- The words shifted out with one more. -/
theorem shiftedWords_snoc (a b : Word) (n : Nat) :
    shiftedWords a b n ++ [[a, b][n]?.getD fillerWord] = shiftedWords a b (n + 1) := by
  simp [shiftedWords_eq, List.range_succ]

theorem shiftedWords_length (a b : Word) (n : Nat) : (shiftedWords a b n).length = n := by
  simp [shiftedWords_eq]

section Word

variable (hservice : ∀ h ∈ (ws ++ [w]).head?, isService (headerCode h) = false)

include hservice

/-- One more word with room for it (R176). -/
theorem Taken.sampled (ht : P.Taken a b ws q)
    (room : (P.queue.map List.length).sum + ws.length < 128) :
    P.Taken a b (ws ++ [w]) (q.sampled w) := by
  have held := ht.wordsHeld
  have sent := ht.sent
  obtain ⟨o, ho, hrun, hout, hqueued, hb, hword, hh, hd⟩ := ht.opened
  obtain ⟨rd, rh, rq, rb, rr⟩ := read_of_taken hh hd hservice
  obtain ⟨h, hhead⟩ : ∃ h, (ws ++ [w]).head? = some h := by cases ws <;> simp
  rw [PortState.sampled_queue ho hout hrun rd (rh.trans hhead) (headerCode_ne_fetch (hservice h hhead))
    (by omega), sent, hword, shiftedWords_snoc, shiftedWords_length]
  rw [ht.frame, rb, hb, ← outWord_succ a b, rq, hqueued]
  exact ⟨by simp, _, rfl, rr.trans hrun, rfl, rfl, rb.trans hb, by simp, rh, fun _ => rd⟩

/-- The word that finds no room (R176). -/
theorem Taken.overruns (ht : P.Taken a b ws q)
    (full : 128 ≤ (P.queue.map List.length).sum + ws.length) :
    P.Overrun a b (ws.length + 1) (q.sampled w) := by
  have held := ht.wordsHeld
  have sent := ht.sent
  obtain ⟨o, ho, hrun, hout, hqueued, hb, hword, hh, hd⟩ := ht.opened
  obtain ⟨rd, rh, -, rb, -⟩ := read_of_taken hh hd hservice
  obtain ⟨h, hhead⟩ : ∃ h, (ws ++ [w]).head? = some h := by cases ws <;> simp
  have hcode := headerCode_ne_fetch (hservice h hhead)
  rw [PortState.sampled_overruns ho hout hrun rd (rh.trans hhead) hcode (by omega), sent, hword,
    shiftedWords_snoc, shiftedWords_length]
  rw [ht.frame, rb, hb, ← outWord_succ a b]
  simp only [PortState.linkFault_serial]
  refine ⟨_, rfl, ?_⟩
  exact ⟨rfl, rfl, OpenTransfer.fetches_of_code (by exact rh.trans hhead) hcode, rb.trans hb, rfl⟩

end Word

/-- A word after the overrun (R176). -/
theorem Overrun.sampled {n : Nat} (ht : P.Overrun a b n q) (w : Word) :
    P.Overrun a b (n + 1) (q.sampled w) := by
  obtain ⟨o, rfl, hrun, hout, hf, hb, hword⟩ := ht.opened
  rw [PortState.sampled_ignored (o := o) rfl hout hrun hf]
  simp only [hword, shiftedWords_snoc, shiftedWords_length, hb, ← outWord_succ a b]
  refine ⟨_, rfl, ?_⟩
  exact ⟨hrun, rfl, hf, rfl, rfl⟩

/-! #### The whole run of words -/

/-- The words of an engine transfer that find room. -/
theorem taken_run (P : PortState) (a b : Word) : ∀ ws : List Word,
    (∀ h ∈ ws.head?, isService (headerCode h) = false) →
    (P.queue.map List.length).sum + ws.length ≤ 128 →
    P.Taken a b ws (ws.foldl (fun p w => p.sampled w) (P.opened a b)) := by
  intro ws
  induction ws using List.reverseRecOn with
  | nil => exact fun _ _ => P.taken_opened a b
  | append_singleton ws w ih =>
    intro hservice room
    rw [List.length_append, List.length_singleton] at room
    rw [List.foldl_append]
    refine (ih (fun h hh => hservice h ?_) (by omega)).sampled hservice (by omega)
    cases ws with
    | nil => simp at hh
    | cons v ws => exact hh

/-- The words of an engine transfer, of which one finds the queue full. -/
theorem overrun_run (P : PortState) (a b : Word) : ∀ ws : List Word,
    (∀ h ∈ ws.head?, isService (headerCode h) = false) →
    128 < (P.queue.map List.length).sum + ws.length → ws ≠ [] →
    P.Overrun a b ws.length (ws.foldl (fun p w => p.sampled w) (P.opened a b)) := by
  intro ws
  induction ws using List.reverseRecOn with
  | nil => exact fun _ _ hne => absurd rfl hne
  | append_singleton ws w ih =>
    intro hservice full _
    have front : ∀ h ∈ ws.head?, isService (headerCode h) = false := fun h hh => hservice h (by
      cases ws with
      | nil => simp at hh
      | cons v ws => exact hh)
    rw [List.length_append, List.length_singleton] at full ⊢
    rw [List.foldl_append]
    by_cases room : (P.queue.map List.length).sum + ws.length ≤ 128
    · exact (taken_run P a b ws front room).overruns hservice (by omega)
    · by_cases hws : ws = []
      · subst hws
        exact (P.taken_opened a b).overruns hservice (by simpa using Nat.le_of_lt (Nat.not_le.mp room))
      · exact (ih front (by omega) hws).sampled w

/-- While it is clocked in, an engine transfer makes its port no more eligible. -/
theorem Taken.quieter (ht : P.Taken a b ws q) : q.Quieter P := by
  rw [ht.frame]
  exact ⟨.inl rfl, id, rfl, Nat.le_refl _⟩

theorem Overrun.quieter {n : Nat} (ht : P.Overrun a b n q) : q.Quieter P := by
  obtain ⟨o, rfl, -⟩ := ht.opened
  obtain ⟨queue, running, waiting, room⟩ :=
    PortState.Quieter.linkFault ⟨.inl rfl, id, rfl, Nat.le_refl P.room⟩ [.overrun]
  exact ⟨queue, running, waiting, room⟩

theorem quieter_run (P : PortState) (a b : Word) (ws : List Word)
    (hservice : ∀ h ∈ ws.head?, isService (headerCode h) = false) :
    (ws.foldl (fun p w => p.sampled w) (P.opened a b)).Quieter P := by
  by_cases room : (P.queue.map List.length).sum + ws.length ≤ 128
  · exact (taken_run P a b ws hservice room).quieter
  · by_cases hws : ws = []
    · subst hws
      exact (P.taken_opened a b).quieter
    · exact (overrun_run P a b ws hservice (by omega) hws).quieter

end PortState

/-- An engine transfer that finds no room for one of its words raises OVERRUN and is gone (R176). -/
theorem sendWords_overrun (p : PortState) (hs : s.ServedLaw) (hr : s.ready x = true)
    (hhigh : (s.port x).selLow = false) (hne : ws ≠ [])
    (hservice : ∀ h ∈ ws.head?, isService (headerCode h) = false)
    (full : 128 < ((s.port x).queue.map List.length).sum + ws.length)
    (hp : p = { s.port x with
      openT := none
      sent := shiftedWords (s.statusA x) (s.statusB x) ws.length
      sentBits := [] }) :
    sendWords x ws s = s.setPort x (p.linkFault [.overrun]) := by
  obtain ⟨o, hq, hrun, -⟩ :=
    (PortState.overrun_run (s.port x) (s.statusA x) (s.statusB x) ws hservice full hne).opened
  have ended : { (s.port x).linkFault [.overrun] with
      openT := none, selLow := false, sent := shiftedWords (s.statusA x) (s.statusB x) ws.length
      sentBits := [] } = p.linkFault [.overrun] := by
    rw [hp, ← PortState.linkFault_serial, ← hhigh]
  have quiet : ∀ k, (s.setPort x ((ws.take k).foldl (fun p w => p.sampled w)
      ((s.port x).opened (s.statusA x) (s.statusB x)))).arbiterPick = none := fun k =>
    PortState.Quieter.arbiterPick (PortState.quieter_run _ _ _ _ fun h hh => hservice h (by
      cases k with
      | zero => simp at hh
      | succ k => cases ws <;> simp_all)) hs
  rw [sendWords_quiet hr hhigh quiet hq rfl rfl (PortState.endTransfer_overrun _ (by exact hrun)), ended,
    State.arbitrate_of_none]
  refine PortState.Quieter.arbiterPick (PortState.Quieter.linkFault ?_ _) hs
  rw [hp]
  exact ⟨.inl rfl, id, rfl, Nat.le_refl _⟩

/-- Settles O25: with room the transfer waits at the tail, without room it overruns. -/
theorem unservedCommandWaits : Obligations.UnservedCommandWaits := by
  intro s i x c p hi hw hs hr hhigh hclosed unserved hp
  obtain ⟨h, args, he, hservice, hcount⟩ := Laws.Framing.all i x c hi hw
  have closed : p = { s.port x with
      openT := none
      sent := shiftedWords (s.statusA x) (s.statusB x) (encodeCommand c).length
      sentBits := [] } := by rw [hp, ← hclosed]
  have held : p.wordsHeld = ((s.port x).queue.map List.length).sum := by
    rw [hp]
    simp [PortState.wordsHeld, hclosed]
  rw [exec_command hi]
  refine ⟨fun room => ?_, fun full => ?_⟩
  · have sent := sendWords_engine s x h args p hs hr hhigh
      (fun w hmem => parityGood_of_mem_encodeCommand (he ▸ hmem)) hservice hcount
      (by rw [held, he] at room; exact room) (by rw [closed, he]; rfl)
    rw [← he, State.arbitrate_of_none] at sent
    · rw [sendCommand_of_flight (by rw [sent]; rfl), sent]
    · split
      · refine PortState.Quieter.arbiterPick ?_ hs
        rw [hp]
        exact ⟨.inl rfl, id, rfl, Nat.le_refl _⟩
      · refine arbiterPick_queued (decodeCommand_encodeCommand hi hw) hs unserved ?_
        rw [hp]
  · have sent := sendWords_overrun (ws := encodeCommand c) p hs hr hhigh (by rw [he]; simp)
      (fun k hk => by rw [he] at hk; cases hk; exact hservice) (by rw [← held]; exact full) closed
    rw [sendCommand_of_flight (by rw [sent]; rfl), sent]

end Sys2Proof.Machine
end

section
/-! ### FETCH (R183, R184) -/

namespace Sys2Proof.Machine

variable {s u : State} {x : Port} {p q P : PortState} {o : OpenTransfer} {a b w : Word} {reply : List Word}
  {n : Nat}

/-! #### The words of a FETCH -/

/-- The header of a FETCH (R206). -/
def fetchHeader : Word := mkWord (header 1 0 0)

theorem fetchHeader_code : headerCode fetchHeader = 1 := headerCode_mkWord_header 1 0 0

theorem fetchHeader_parity : parityGood fetchHeader = true := parityGood_mkWord _

theorem fetchWords_succ (n : Nat) :
    fetchWords (n + 1) = fetchWords n ++ [if n = 0 then fetchHeader else fillerWord] := by
  cases n with
  | zero => rfl
  | succ n => simp [fetchWords, List.replicate_succ']

theorem fetchWords_head (n : Nat) : (fetchWords n).head? = if n = 0 then none else some fetchHeader := by
  cases n <;> rfl

theorem take_fetchWords (k n : Nat) : (fetchWords n).take k = fetchWords (min k n) := by
  cases n with
  | zero => simp [fetchWords]
  | succ n =>
    cases k with
    | zero => simp [fetchWords]
    | succ k =>
      have : min (k + 1) (n + 1) = min k n + 1 := by omega
      simp [this, fetchWords, List.take_replicate]

/-! #### One word of a FETCH -/

/-- What a FETCH shifts out in its first `n` words: the status words, the reply words, empty markers
(R183). -/
def fetchedWords (a b : Word) (reply : List Word) (n : Nat) : List Word :=
  (List.range n).map fun k => (a :: b :: reply)[k]?.getD emptyMarker

theorem fetchedWords_succ (a b : Word) (reply : List Word) (n : Nat) :
    fetchedWords a b reply n ++ [(a :: b :: reply)[n]?.getD emptyMarker] =
      fetchedWords a b reply (n + 1) := by
  simp [fetchedWords, List.range_succ]

theorem fetchedWords_length (a b : Word) (reply : List Word) (n : Nat) :
    (fetchedWords a b reply n).length = n := by
  simp [fetchedWords]

/-- The open-transfer record of a FETCH after `n` words. -/
structure OpenTransfer.Fetching (o : OpenTransfer) (a b : Word) (reply : List Word) (n : Nat) : Prop where
  running : o.overrun = false
  parity : o.paritySeen = false
  words : o.words = n
  statusB : o.statusB = b
  outWord : o.outWord = (a :: b :: reply)[n]?.getD emptyMarker
  outReply : o.outReply = decide (2 ≤ n ∧ n - 2 < reply.length)
  header : o.header = (fetchWords n).head?
  destination : n ≠ 0 → o.destination = some .assembler

/-- What a word of a FETCH reads as. -/
theorem OpenTransfer.Fetching.read (h : o.Fetching a b reply n) (hw : n = 0 → w = fetchHeader) :
    o.read w = { o with header := some fetchHeader, destination := some .assembler } := by
  have header := h.header
  rw [fetchWords_head] at header
  split at header
  · rename_i h0
    rw [OpenTransfer.read_first header, hw h0]
    have service : isService (headerCode fetchHeader) = true := by
      rw [fetchHeader_code]
      rfl
    simp [service, fetchHeader_parity, h.parity]
  · rename_i h0
    rw [OpenTransfer.read_later header, ← header, ← h.destination h0]
    simp [fetchHeader_code]

/-- A reply word that has been shifted leaves the buffer, and the next one stands at its head (R183). -/
theorem drop_shifted (reply : List Word) (n : Nat) :
    (if decide (2 ≤ n ∧ n - 2 < reply.length) = true then (reply.drop (n - 2)).tail
      else reply.drop (n - 2)) = reply.drop (n + 1 - 2) := by
  simp only [decide_eq_true_eq]
  split
  · rename_i h
    rw [List.tail_drop]
    congr 1
    omega
  · rename_i h
    by_cases hn : 2 ≤ n
    · rw [List.drop_eq_nil_of_le (by omega), List.drop_eq_nil_of_le (by omega)]
    · congr 1
      omega

/-- One more word of a FETCH, on any port where it is in progress. -/
theorem OpenTransfer.Fetching.sampled (h : o.Fetching a b reply n) (hw : n = 0 → w = fetchHeader) :
    ∃ o' : OpenTransfer, o'.Fetching a b reply (n + 1) ∧ ∀ p : PortState, p.openT = some o →
      p.sent = fetchedWords a b reply n → p.reply = reply.drop (n - 2) →
      p.sampled w = { p with
        sent := fetchedWords a b reply (n + 1), reply := reply.drop (n + 1 - 2), openT := some o' } := by
  have hread := h.read hw
  refine ⟨{ o.read w with
    words := (o.read w).words + 1
    heldWords := if (o.read w).heldWords.length < 2 then (o.read w).heldWords ++ [w]
      else (o.read w).heldWords
    outWord := if (fetchedWords a b reply (n + 1)).length = 1 then (o.read w).statusB
      else if headerCode fetchHeader = 1 ∧ parityGood fetchHeader = true then
        (reply.drop (n + 1 - 2)).head?.getD emptyMarker
      else fillerWord
    outReply := (fetchedWords a b reply (n + 1)).length ≠ 1 && headerCode fetchHeader = 1 &&
      parityGood fetchHeader && !(reply.drop (n + 1 - 2)).isEmpty }, ?_, fun p ho hsent hreply =>
    PortState.sampled_service ho h.running (by rw [hread]) (by rw [hread])
      (by rw [hsent, h.outWord, fetchedWords_succ]) (by rw [hreply, h.outReply, drop_shifted])⟩
  · rw [hread]
    refine ⟨h.running, h.parity, congrArg (· + 1) h.words, h.statusB, ?_, ?_,
      by simp [fetchWords_head], fun _ => rfl⟩
    · cases n with
      | zero => simp [fetchedWords_length, h.statusB]
      | succ n => simp [fetchedWords_length, fetchHeader_code, fetchHeader_parity]
    · rw [Bool.eq_iff_iff]
      simp only [fetchedWords_length, fetchHeader_code, fetchHeader_parity, Bool.and_eq_true,
        decide_eq_true_eq, Bool.not_eq_true', List.isEmpty_eq_false_iff, ne_eq,
        List.drop_eq_nil_iff, and_true, not_le]
      exact and_congr_left fun _ => by omega

/-- The end of a FETCH: one of more than 128 words is a FORMAT fault, every other has no effect (R184). -/
theorem OpenTransfer.Fetching.ends (h : o.Fetching a b reply n) (p : PortState) (locked : Bool) :
    p.endTransfer locked { o with partialBits := 0 } =
      if n ≤ 128 then { p with openT := none } else { p with openT := none }.linkFault [.format] := by
  obtain ⟨k, hk⟩ : ∃ k, k = { o with partialBits := 0 } := ⟨_, rfl⟩
  have running : k.overrun = false := by rw [hk, h.running]
  have flags := OpenTransfer.linkFlags_eq o 0
  have header : k.header = if n = 0 then none else some fetchHeader := by
    rw [hk, ← fetchWords_head, ← h.header]
  rw [← hk] at flags ⊢
  split at header
  · rename_i h0
    have good : k.linkFlags = [] := by simp [flags, h.header, fetchWords_head, h0, h.parity]
    rw [PortState.endTransfer_headless _ running good header, if_pos (by omega)]
  · rename_i h0
    have count : countAllowed 1 n = decide (n ≤ 128) := by
      have : 1 ≤ n := by omega
      simp [countAllowed, codeRow, serviceRows, this]
    have found : k.linkFlags = if n ≤ 128 then [] else [.format] := by
      rw [flags, h.header, fetchWords_head, if_neg h0, h.words]
      by_cases hn : n ≤ 128 <;> simp [h.parity, fetchHeader_parity, fetchHeader_code, count, hn]
    split
    · rename_i hn
      rw [if_pos hn] at found
      rw [PortState.endTransfer_service _ running found header (by rw [hk, h.destination h0]),
        fetchHeader_code]
      rfl
    · rename_i hn
      rw [if_neg hn] at found
      rw [PortState.endTransfer_bad _ running (by simp [found]), found]

/-! #### A FETCH by which nobody gets room -/

/-- `q` is the port `P` after `n` words of a FETCH. -/
def PortState.Fetched (P : PortState) (a b : Word) (n : Nat) (q : PortState) : Prop :=
  ∃ o : OpenTransfer, o.Fetching a b P.reply n ∧ q = { P with
    selLow := true, sentBits := [], sent := fetchedWords a b P.reply n
    reply := P.reply.drop (n - 2), openT := some o }

theorem PortState.fetched_opened (P : PortState) (a b : Word) : P.Fetched a b 0 (P.opened a b) :=
  ⟨OpenTransfer.begun a b, ⟨rfl, rfl, rfl, rfl, rfl, rfl, rfl, fun h => absurd rfl h⟩, rfl⟩

theorem PortState.Fetched.sampled (h : P.Fetched a b n q) (hw : n = 0 → w = fetchHeader) :
    P.Fetched a b (n + 1) (q.sampled w) := by
  obtain ⟨o, ho, rfl⟩ := h
  obtain ⟨o', ho', hsampled⟩ := ho.sampled hw
  exact ⟨o', ho', hsampled _ rfl rfl rfl⟩

theorem PortState.fetched_run (P : PortState) (a b : Word) (n : Nat) :
    P.Fetched a b n ((fetchWords n).foldl (fun p w => p.sampled w) (P.opened a b)) := by
  induction n with
  | zero => exact P.fetched_opened a b
  | succ n ih =>
    rw [fetchWords_succ, List.foldl_append]
    exact ih.sampled fun h => if_pos h

/-- The port after a FETCH of `n` words that is not judged yet. -/
def PortState.fetched (P : PortState) (a b : Word) (n : Nat) : PortState :=
  { P with
    openT := none, selLow := false, sentBits := []
    sent := fetchedWords a b P.reply n, reply := P.reply.drop (n - 2) }

/-- A FETCH makes room word by word, so before its end its port is no more eligible than at it. -/
theorem PortState.Fetched.quieter {k : Nat} (h : P.Fetched a b k q) (hk : k ≤ n) :
    q.Quieter (P.fetched a b n) := by
  obtain ⟨o, -, rfl⟩ := h
  refine ⟨.inl rfl, id, rfl, ?_⟩
  simp only [PortState.room, PortState.fetched, List.length_drop]
  omega

/-- A FETCH by which nobody gets room. -/
theorem sendWords_fetch (hr : s.ready x = true) (hhigh : (s.port x).selLow = false)
    (hp : p = (s.port x).fetched (s.statusA x) (s.statusB x) n)
    (quiet : (s.setPort x p).arbiterPick = none) :
    sendWords x (fetchWords n) s = s.setPort x (if n ≤ 128 then p else p.linkFault [.format]) := by
  subst hp
  obtain ⟨o, ho, hq⟩ := PortState.fetched_run (s.port x) (s.statusA x) (s.statusB x) n
  rw [sendWords_quiet hr hhigh (fun k => ?_) hq rfl rfl (ho.ends _ _), State.arbitrate_of_none]
  · rfl
  · show (s.setPort x (if n ≤ 128 then (s.port x).fetched (s.statusA x) (s.statusB x) n
      else ((s.port x).fetched (s.statusA x) (s.statusB x) n).linkFault [.format])).arbiterPick = none
    split
    · exact quiet
    · rw [← s.setPort_setPort x ((s.port x).fetched (s.statusA x) (s.statusB x) n)]
      refine PortState.Quieter.arbiterPick (PortState.Quieter.linkFault ?_ _) quiet
      rw [State.port_setPort_same]
      exact ⟨.inl rfl, id, rfl, Nat.le_refl _⟩
  · rw [take_fetchWords, ← s.setPort_setPort x ((s.port x).fetched (s.statusA x) (s.statusB x) n)]
    refine PortState.Quieter.arbiterPick ?_ quiet
    rw [State.port_setPort_same]
    exact (PortState.fetched_run _ _ _ _).quieter (Nat.min_le_right k n)

/-! #### Grants of the port alone, while it fetches -/

/-- A grant leaves the lines, the clock and the queue of events; the pointer names its port (R90). -/
theorem grantTo_lines (x : Port) (s : State) :
    (grantTo x s).standby = s.standby ∧ (grantTo x s).clock = s.clock ∧
      (grantTo x s).pending = s.pending ∧ ((s.port x).queue ≠ [] → (grantTo x s).grantPtr = x) := by
  rcases grantTo_cases x s with ⟨hq, e⟩ | ⟨w, rest, -, ⟨-, e⟩ | ⟨c, -, e⟩⟩ <;> rw [e]
  · exact ⟨rfl, rfl, rfl, fun h => absurd hq h⟩
  · exact ⟨rfl, rfl, rfl, fun _ => rfl⟩
  · obtain ⟨-, -, standby, clock, pending, ptr⟩ := beginCommand_frame x c (s.granted x w rest c)
    exact ⟨standby, clock, pending, fun _ => ptr⟩

/-- `u` is `s` with port `x` replaced by `q` and, after it, no more than grants of `x`. -/
structure State.OnlyGranted (s : State) (x : Port) (q : PortState) (u : State) : Prop where
  port : ∃ queue clip waiting reserved, u.port x =
    { q with queue := queue, clip := clip, waiting := waiting, reserved := reserved }
  phase : u.phase = s.phase
  standby : u.standby = s.standby
  others : ∀ y, y ≠ x → u.port y = s.port y
  ptr : u.grantPtr = x ∨ u = s.setPort x q

theorem State.OnlyGranted.refl (s : State) (x : Port) (q : PortState) :
    s.OnlyGranted x q (s.setPort x q) :=
  ⟨⟨q.queue, q.clip, q.waiting, q.reserved, s.port_setPort_same x q⟩, rfl, rfl,
    fun _ hy => s.port_setPort_other q hy, .inr rfl⟩

/-- The searches of the arbiter grant nobody else, where nobody else is eligible. -/
theorem State.OnlyGranted.arbitrate (h : s.OnlyGranted x q u)
    (others : ∀ y, y ≠ x → s.eligible y = false) : s.OnlyGranted x q u.arbitrate := by
  refine State.arbitrate_keeps (fun v y hv hpick => ?_) u h
  obtain ⟨-, he⟩ := State.arbiterPick_some hpick
  have hy : y = x := by
    by_contra hy
    have same := hv.others y hy
    rw [← Bool.not_eq_false, State.eligible_congr hv.phase (by rw [same]) (by rw [same]) (by rw [same])
      (by rw [same])] at he
    exact he (others y hy)
  subst hy
  obtain ⟨-, -, -, t, rest, hq, -⟩ := State.eligible_facts he
  obtain ⟨clip, waiting, reserved, ports⟩ := grantTo_ports hq
  obtain ⟨standby, -, -, ptr⟩ := grantTo_lines y v
  obtain ⟨queue', clip', waiting', reserved', port⟩ := hv.port
  refine ⟨⟨rest, clip, waiting, reserved, ?_⟩, (grantTo_phase y v).trans hv.phase,
    standby.trans hv.standby, fun z hz => ?_, .inl (ptr (by simp [hq]))⟩
  · rw [State.port, ports, Ports.get_set_same, port]
  · rw [State.port, ports, Ports.get_set_other _ _ hz]
    exact hv.others z hz

/-- A change on the serial side of the port, made on both. -/
theorem State.OnlyGranted.serial (h : s.OnlyGranted x q u) (openT : Option OpenTransfer)
    (reply sent : List Word) (sentBits : List Bool) (selLow : Bool) :
    s.OnlyGranted x
      { q with openT := openT, reply := reply, sent := sent, sentBits := sentBits, selLow := selLow }
      (u.setPort x { u.port x with
        openT := openT, reply := reply, sent := sent, sentBits := sentBits, selLow := selLow }) := by
  obtain ⟨queue, clip, waiting, reserved, port⟩ := h.port
  refine ⟨⟨queue, clip, waiting, reserved, ?_⟩, h.phase, h.standby,
    fun y hy => (u.port_setPort_other _ hy).trans (h.others y hy), h.ptr.imp id fun e => ?_⟩
  · rw [State.port_setPort_same, port]
  · rw [e, State.setPort_setPort, State.port_setPort_same]

/-- Readiness is no matter of grants. -/
theorem State.OnlyGranted.ready (h : s.OnlyGranted x q u) (held : q.held = (s.port x).held) :
    u.ready x = s.ready x := by
  obtain ⟨queue, clip, waiting, reserved, port⟩ := h.port
  simp only [State.ready, h.phase, h.standby, port, held]

/-! #### A FETCH by which its own port gets room -/

/-- A state of a FETCH on port `x`, after `n` of its words: besides them there were no more than grants of
`x`. -/
def State.FetchRun (s : State) (x : Port) (n : Nat) (u : State) : Prop :=
  ∃ q, (s.port x).Fetched (s.statusA x) (s.statusB x) n q ∧ s.OnlyGranted x q u

theorem State.FetchRun.sampled (h : s.FetchRun x n u) (hr : s.ready x = true)
    (others : ∀ y, y ≠ x → s.eligible y = false) (hw : n = 0 → w = fetchHeader) :
    s.FetchRun x (n + 1) (onWordSampled x w u).arbitrate := by
  obtain ⟨q, ⟨o, ho, rfl⟩, hu⟩ := h
  obtain ⟨o', ho', hsampled⟩ := ho.sampled hw
  refine ⟨_, ⟨o', ho', rfl⟩, State.OnlyGranted.arbitrate ?_ others⟩
  obtain ⟨queue, clip, waiting, reserved, port⟩ := hu.port
  rw [onWordSampled_eq, if_pos ((hu.ready rfl).trans hr),
    hsampled (u.port x) (by rw [port]) (by rw [port]) (by rw [port])]
  have next := hu.serial (some o') ((s.port x).reply.drop (n + 1 - 2))
    (fetchedWords (s.statusA x) (s.statusB x) (s.port x).reply (n + 1)) [] true
  have lines : (u.port x).selLow = true ∧ (u.port x).sentBits = [] := by
    rw [port]
    exact ⟨rfl, rfl⟩
  rw [lines.1.symm, lines.2.symm] at next
  simpa [lines] using next

theorem State.fetchRun_words (hr : s.ready x = true) (others : ∀ y, y ≠ x → s.eligible y = false)
    (n : Nat) :
    s.FetchRun x n ((fetchWords n).foldl (fun t w => (onWordSampled x w t).arbitrate)
      (s.setPort x ((s.port x).opened (s.statusA x) (s.statusB x)))) := by
  induction n with
  | zero => exact ⟨_, PortState.fetched_opened _ _ _, State.OnlyGranted.refl s x _⟩
  | succ n ih =>
    rw [fetchWords_succ, List.foldl_append]
    exact State.FetchRun.sampled ih hr others fun h => if_pos h

/-- A good FETCH, with the grants of its port that the room it makes lets come. -/
theorem sendWords_fetch_granted (hr : s.ready x = true) (hhigh : (s.port x).selLow = false)
    (others : ∀ y, y ≠ x → s.eligible y = false) (hn : n ≤ 128) :
    s.OnlyGranted x ((s.port x).fetched (s.statusA x) (s.statusB x) n)
      (sendWords x (fetchWords n) s) := by
  obtain ⟨q, ⟨o, ho, rfl⟩, hu⟩ := State.fetchRun_words hr others n
  have start : onTransferStart x s =
      s.setPort x ((s.port x).opened (s.statusA x) (s.statusB x)) := by
    simp only [onTransferStart, hhigh, hr, if_true, if_false, Bool.false_eq_true]
    rfl
  unfold sendWords
  rw [if_neg (by simp [hhigh]), start]
  refine State.OnlyGranted.arbitrate ?_ others
  generalize (fetchWords n).foldl (fun t w => (onWordSampled x w t).arbitrate) _ = v at hu
  obtain ⟨queue, clip, waiting, reserved, port⟩ := hu.port
  have open' : (v.port x).openT = some o ∧ (v.port x).selLow = true ∧
      (v.port x).sent = fetchedWords (s.statusA x) (s.statusB x) (s.port x).reply n ∧
      (v.port x).reply = (s.port x).reply.drop (n - 2) := by
    rw [port]
    exact ⟨rfl, rfl, rfl, rfl⟩
  obtain ⟨hopen, hlow, hsent, hreply⟩ := open'
  have ends : onTransferEnd x 0 v = v.setPort x
      { v.port x with selLow := false, sentBits := [], openT := none } := by
    simp only [onTransferEnd, hlow, Bool.not_true, Bool.false_eq_true, if_false, State.updPort_eq,
      hopen]
    exact congrArg (v.setPort x) ((ho.ends _ _).trans (if_pos hn))
  have last := hu.serial none ((s.port x).reply.drop (n - 2))
    (fetchedWords (s.statusA x) (s.statusB x) (s.port x).reply n) [] false
  rw [← hsent, ← hreply] at last
  rw [ends]
  rw [PortState.fetched, ← hsent, ← hreply]
  exact last

/-- Settles O17: without a grant the port alone changes; with one, what was shifted is the same. -/
theorem fetchShiftsTheReply : Obligations.FetchShiftsTheReply := by
  intro s x n p hs hr hhigh hp
  have fetched : p = (s.port x).fetched (s.statusA x) (s.statusB x) n := by
    rw [hp, PortState.fetched, ← hhigh, fetchedWords, take_append_replicate]
  refine ⟨fun quiet => congrArg Host.Outcome.next (sendWords_fetch hr hhigh fetched quiet),
    fun hpick hn => ⟨_, rfl, ?_⟩⟩
  have idle : ¬ s.flight ≠ none := not_not.mpr (State.arbiterPick_some hpick).1
  have run := sendWords_fetch_granted hr hhigh
    (fun y _ => (State.arbiterPick_none hs).resolve_left idle y) hn
  rw [← fetched] at run
  have served : (sendWords x (fetchWords n) s).arbiterPick = none := by
    rw [sendWords, if_neg (by simp [hhigh])]
    exact State.arbitrate_served _
  obtain ⟨queue, clip, waiting, reserved, port⟩ := run.port
  refine ⟨run.ptr.resolve_right fun e => ?_, ?_⟩
  · rw [e, hpick] at served
    exact absurd served (by simp)
  · show ((sendWords x (fetchWords n) s).port x).sent = _ ∧
      ((sendWords x (fetchWords n) s).port x).reply = _ ∧
      ((sendWords x (fetchWords n) s).port x).openT = _
    rw [port]
    exact ⟨rfl, rfl, by rw [hp]⟩

end Sys2Proof.Machine
end

section
/-! ### A command row as its events (R87, R90, R91, R94, R174-R178) -/

namespace Sys2Proof.Machine

variable {s t u : State} {x : Port} {c : Command}

/-- The words of a transfer, sampled one after another. -/
theorem runEvents_words (x : Port) (ws : List Word) (s : State) :
    runEvents (ws.map (.wordSampled x)) s =
      .next (ws.foldl (fun t w => (onWordSampled x w t).arbitrate) s) := by
  induction ws generalizing s with
  | nil => rfl
  | cons w ws ih => exact (runEvents_cons rfl).trans (ih _)

/-- A whole transfer is its edges and its words. -/
theorem runEvents_transfer (ws : List Word) (high : (s.port x).selLow = false) :
    runEvents (.transferStart x :: ws.map (.wordSampled x) ++ [.transferEnd x 0]) s =
      .next (sendWords x ws s) := by
  rw [List.cons_append, runEvents_cons rfl, runEvents_append _ (runEvents_words x ws _),
    runEvents_cons rfl, sendWords, if_neg (by simp [high])]
  rfl

/-- Cell accesses between which the arbiter finds nobody are steps of the engine. -/
theorem State.AloneOn.runEvents_cellAccess (others : ∀ y, y ≠ x → s.eligible y = false) :
    ∀ (n : Nat) (t : State), s.AloneOn x t →
      runEvents (List.replicate n .cellAccess) t = engineSteps n t := by
  intro n
  induction n with
  | zero => exact fun _ _ => rfl
  | succ n ih =>
    intro t h
    rw [List.replicate_succ]
    cases e : Machine.engineStep t with
    | next u =>
      have hu := h.engineStep e
      have done : exec .cellAccess t = .next u := by
        show thenArbitrate (Machine.engineStep t) = .next u
        rw [e, thenArbitrate, hu.arbitrate others]
      rw [runEvents_cons done, ih u hu]
      simp only [engineSteps, e]
    | fault r =>
      have stops : exec .cellAccess t = .fault r := by
        show thenArbitrate (Machine.engineStep t) = .fault r
        rw [e, thenArbitrate]
      simp only [runEvents, stops, engineSteps, e]
    | refused r => exact absurd e engineStep_not_refused

/-! #### The end of the run -/

/-- Dropping an idle mark event leaves no more steps. -/
theorem length_dropIdleMark_le (old : List Code) (todo : List Micro) :
    (dropIdleMark old todo).length ≤ todo.length := by
  unfold dropIdleMark
  split
  · split <;> simp
  · exact le_rfl

/-- A command in flight has a step to do. -/
def State.FlightBusy (s : State) : Prop := ∀ f, s.flight = some f → f.todo ≠ []

theorem State.flightBusy_of_none (h : s.flight = none) : s.FlightBusy :=
  fun f hf => absurd (h.symm.trans hf) (by simp)

/-- A step leaves a busy engine busy, with one step less to do, or ends the command. -/
theorem State.FlightBusy.step (h : s.FlightBusy) (he : engineStep s = .next t) :
    t.FlightBusy ∧ t.stepsLeft ≤ s.stepsLeft - 1 := by
  rcases engineStep_next he with ⟨hf, rfl⟩ | ⟨f, hf, ht, rfl⟩ | ⟨f, m, rest, hf, ht, -, rfl⟩
  · exact ⟨h, by simp [State.stepsLeft, hf]⟩
  · exact absurd ht (h f hf)
  · have before : s.stepsLeft = rest.length + 1 := by simp [State.stepsLeft, hf, ht]
    simp only [State.stepDone]
    split
    · exact ⟨State.flightBusy_of_none rfl, by simp [State.stepsLeft, State.complete]⟩
    · rename_i busy
      refine ⟨fun g hg => ?_, ?_⟩
      · cases hg
        simpa using busy
      · rw [before]
        exact length_dropIdleMark_le _ _

/-- Enough steps end the command in flight. -/
theorem State.FlightBusy.engineSteps_ends :
    ∀ (n : Nat) (s : State), s.FlightBusy → s.stepsLeft ≤ n → engineSteps n s = .next t →
      t.flight = none := by
  intro n
  induction n with
  | zero =>
    intro s h hn he
    cases he
    cases hf : t.flight with
    | none => rfl
    | some f =>
      refine absurd (List.eq_nil_of_length_eq_zero ?_) (h f hf)
      simpa [State.stepsLeft, hf] using hn
  | succ n ih =>
    intro s h hn he
    simp only [engineSteps] at he
    cases hu : Machine.engineStep s with
    | next u =>
      rw [hu] at he
      obtain ⟨busy, left⟩ := h.step hu
      exact ih u busy (by omega) he
    | fault r => simp [hu] at he
    | refused r => simp [hu] at he

/-- A command that begins is in flight with a step to do, or complete already. -/
theorem beginCommand_flightBusy (x : Port) (c : Command) (s : State) :
    (beginCommand x c s).FlightBusy := by
  intro f hf
  cases hg : (startCommand x c s).flight with
  | none => simp [beginCommand, State.completeIfDone, hg] at hf
  | some g =>
    cases ht : g.todo with
    | nil =>
      rw [beginCommand, State.completeIfDone_nil x hg ht] at hf
      exact absurd hf (by simp)
    | cons m todo =>
      rw [beginCommand, State.completeIfDone_cons x hg ht, hg] at hf
      cases hf
      simp [ht]

/-- Settles O24: the transfer ends in the begun state, and the cell accesses from there are the row's
run. -/
theorem commandRowIsItsEvents : Obligations.CommandRowIsItsEvents := by
  intro s i x c hi hc hfree
  have h := State.servedAtOnce hfree
  rw [exec_of_freeFor hi hc hfree]
  refine ⟨?_, fun t ht => (beginCommand_flightBusy x c _).engineSteps_ends _ _ le_rfl ht⟩
  rw [eventsOf, runEvents_append _ (runEvents_transfer _ h.high), h.sendWords hi hc,
    State.AloneOn.runEvents_cellAccess h.others _ _ h.aloneOn_begun]
  rfl

end Sys2Proof.Machine
end

section
/-! ### Refusals: the first check a command fails (R92, R195) -/

namespace Sys2Proof.Machine

variable {s t : State} {x : Port} {c : Command} {code : RefusalCode}

/-- The code of the first check that fails. -/
def firstCode (checks : List (Bool × RefusalCode)) : Option RefusalCode :=
  (checks.find? Prod.fst).map Prod.snd

@[simp] theorem firstCode_nil : firstCode [] = none := rfl

@[simp] theorem firstCode_cons (fails : Bool) (code : RefusalCode) (rest : List (Bool × RefusalCode)) :
    firstCode ((fails, code) :: rest) = if fails then some code else firstCode rest := by
  cases fails <;> rfl

theorem State.verdict_eq (s : State) (x : Port) (c : Command) :
    s.verdict x c = firstCode (s.checks x c) := rfl

/-- A command that fails a check has its refusal as its one step, with the code of the first check it
fails: the checks of `State.checks` in their order against those the engine makes. -/
theorem startCommand_refused (h : t.verdict x c = some code) :
    startCommand x c t = t.refusing code := by
  rw [State.verdict_eq] at h
  cases c <;>
    simp only [State.checks, Command.ownerPane, List.cons_append, List.nil_append, firstCode_cons,
      firstCode_nil] at h
  case wait | palette | staleColour | blink | lock => exact absurd h (by simp)
  case dropPane | release | raise | lower | behind =>
    split_ifs at h
    cases h
    simp_all [startCommand, engineDrop, engineRelease, engineRaise, engineLower, engineBehind, State.owns]
  case showPane | hidePane | roll | sweep | tint =>
    split_ifs at h <;> cases h <;>
      simp_all [startCommand, engineShow, engineHide, beginRoll, beginSweep, beginTint, State.owns,
        Pane.defined]
  case define p g =>
    have overlap : t.overlaps x (Geometry.view g (t.pane p).view) =
        t.meetsForeign x g.base (g.base + g.pitch * g.ringLines) := State.overlaps_eq t x _
    split_ifs at h <;> cases h <;>
      simp_all [startCommand, engineDefine, State.owns, Geometry.outOfRange_eq]
  case claim p =>
    simp only [startCommand, engineClaim, Pane.defined, State.overlaps_eq]
    cases howner : (t.pane p).owner with
    | none => split_ifs at h <;> cases h <;> simp_all [Option.isSome_iff_ne_none]
    | some y => split_ifs at h <;> cases h <;> simp_all
  case setTop | log | place | shift =>
    split_ifs at h <;> cases h <;>
      simp_all [startCommand, engineSetTop, beginLog, beginPlace, beginShift, State.owns, Pane.defined]
  case tick p row col codes digit arrow =>
    have code_eq : tickRefusal x p row col codes.length t = some code := by
      rw [← h]
      simp [tickRefusal, State.fieldGuarded, State.owns, Pane.defined]
    simp only [startCommand, beginTick, code_eq]
  case readCells =>
    split_ifs at h <;> cases h <;> simp_all [startCommand, beginReadCells, Pane.defined]
    omega
  case glyph | readGlyph =>
    split_ifs at h
    cases h
    simp_all [startCommand, engineGlyph, engineReadGlyph]
  case patch | patchCode | patchRows | unpatch =>
    split_ifs at h
    cases h
    simp only [startCommand, enginePatch, enginePatchCode, enginePatchRows, engineUnpatch]
    split_ifs <;> simp_all
    omega
  case ramp dir stage fg bg duration count =>
    simp only [startCommand, engineRamp]
    match dir with
    | 3 => simp_all [directionOf]
    | 0 | 1 | 2 => split_ifs at h <;> cases h <;> simp_all [directionOf]
  case cursor p row col startScan endScan mode =>
    simp only [startCommand, engineCursor, State.owns]
    match mode with
    | 3 => split_ifs at h <;> cases h <;> simp_all [cursorModeOf]
    | 0 | 1 | 2 => split_ifs at h <;> cases h <;> simp_all [cursorModeOf]
  case timing =>
    split_ifs at h
    cases h
    simp_all [startCommand, engineTiming]

/-- On a RUNNING port a refusal that pauses does pause (R195). -/
theorem PortState.refuse_running (p : PortState) (code : RefusalCode)
    (h : p.faults.condition = .running) :
    p.refuse code =
      let r := { p.faults with sticky := p.faults.sticky.set code.flag, lastRefusal := some code }
      match p.faults.refuseMode with
      | .ignore => { p with faults := { p.faults with lastRefusal := some code } }
      | .report => { p with faults := r }
      | .resumeFast => { p with faults := { r with condition := .paused, retry := some 2 } }
      | .resumeSlow => { p with faults := { r with condition := .paused, retry := some 50 } }
      | .latch => { p with
          faults := { r with condition := .halted, retry := none }, queue := [] } := by
  rw [PortState.refuse_modes]
  cases p.faults.refuseMode <;> simp [h]

/-- Settles O27: the verdict of the sender's state is that of the granted one, and its refusal is the one
step of the row. -/
theorem refusedCommandDoesNothingElse : Obligations.RefusedCommandDoesNothingElse := by
  intro s i x c code hi hc hfree hv
  have granted : (s.grantedNow x c).verdict x c = some code := hv
  have running : ((s.delivered x c).port x).faults.condition = .running := by
    rw [State.delivered, State.port_updPort_same]
    exact (State.servedAtOnce hfree).running
  rw [exec_of_refusal hi hc hfree (startCommand_refused granted), State.refusedWith]
  simp only [State.refuse, State.updPort_eq, PortState.refuse_running _ _ running]
  rfl

end Sys2Proof.Machine
end

section
/-! ### Commands whose steps read cells and hand them on: SHIFT and READ_CELLS (R94) -/

namespace Sys2Proof.Machine

variable {s u : State} {f : Flight} {m : Micro} {todo rest : List Micro} {x : Port} {c : Command}
  {cut : Bool}

/-- A step of a SHIFT or a READ_CELLS. -/
def Micro.copies : Micro → Bool
  | .load _ _ | .store _ _ | .read _ _ => true
  | .put _ _ _ _ | .tint _ _ _ _ | .clearCell _ _ | .text _ _ _ | .readOld _ _ | .putCode _ _ _
  | .markEvent _ _ _ _ | .arrow _ _ _ | .advance _ | .discard | .readBitmap _ _ _ | .refuse _ => false

section Copies

variable (hm : m.copies = true) (f) (s)

include hm

/-- The step asks of the command in flight only its port, its pane and the cell it holds. -/
theorem Micro.effect_copies_flying (todo : List Micro) :
    m.effect { f with todo := todo } (s.flying f todo) = (m.effect f s).flying f todo := by
  cases m <;> simp only [copies, Bool.false_eq_true] at hm
  case load | read => rfl
  case store =>
    simp only [effect]
    split <;> rfl

theorem Micro.progress_copies_flying (todo : List Micro) :
    m.progress { f with todo := todo } (s.flying f todo) = { m.progress f s with todo := todo } := by
  cases m <;> simp only [copies, Bool.false_eq_true] at hm <;> rfl

theorem Micro.effect_copies_pane (p : PaneId) : (m.effect f s).pane p = s.pane p := by
  cases m <;> simp only [copies, Bool.false_eq_true] at hm
  case load | read => rfl
  case store =>
    simp only [effect]
    split <;> rfl

theorem Micro.dropIdleMark_copies (old : List Code) : dropIdleMark old (m :: rest) = m :: rest := by
  cases m <;> simp only [copies, Bool.false_eq_true] at hm <;> rfl

end Copies

/-- A SHIFT or a READ_CELLS in flight runs as the effects of its steps, and completes. -/
theorem engineSteps_copies (m : Micro) (rest : List Micro)
    (hcopy : ∀ k ∈ m :: rest, k.copies = true) (hfit : ∀ k ∈ m :: rest, k.fits (s.pane f.pane))
    (hl : (s.pane f.pane).view.Legal) :
    engineSteps (m :: rest).length (s.flying f (m :: rest)) =
      .next ((runSteps f (m :: rest) s).complete f.port) := by
  have hm := hcopy m List.mem_cons_self
  have step : engineStep (s.flying f (m :: rest)) = .next
      ((s.flying f (m :: rest)).stepDone { f with todo := m :: rest } m rest) :=
    engineStep_cons rfl rfl fun a ha => (hfit m List.mem_cons_self).address_lt (fun _ => hl) ha
  induction rest generalizing s f m with
  | nil =>
    simp only [List.length_singleton, engineSteps, step, State.stepDone_last,
      Micro.effect_copies_flying s f hm]
    rfl
  | cons k rest ih =>
    have hk := hcopy k (by simp)
    have pane := Micro.effect_copies_pane s f hm f.pane
    have hrest : ∀ n ∈ k :: rest, n.copies = true := fun n hn => hcopy n (List.mem_cons_of_mem _ hn)
    have next : (s.flying f (m :: k :: rest)).stepDone { f with todo := m :: k :: rest } m (k :: rest) =
        (m.effect f s).flying (m.progress f s) (k :: rest) := by
      simp only [State.stepDone, Micro.progress_copies_flying s f hm,
        Micro.effect_copies_flying s f hm, Micro.dropIdleMark_copies hk]
      rfl
    have later : ∀ n ∈ k :: rest, n.fits ((m.effect f s).pane (m.progress f s).pane) := fun n hn => by
      rw [Micro.progress_pane, pane]
      exact hfit n (List.mem_cons_of_mem _ hn)
    have legal : ((m.effect f s).pane (m.progress f s).pane).view.Legal := by
      rwa [Micro.progress_pane, pane]
    calc engineSteps (m :: k :: rest).length (s.flying f (m :: k :: rest))
        = engineSteps (k :: rest).length ((m.effect f s).flying (m.progress f s) (k :: rest)) := by
          rw [next] at step
          simp only [List.length_cons, engineSteps, step]
      _ = .next ((runSteps (m.progress f s) (k :: rest) (m.effect f s)).complete
            (m.progress f s).port) :=
          ih k hrest later legal hk (engineStep_cons rfl rfl fun a ha =>
            (later k List.mem_cons_self).address_lt (fun _ => legal) ha)
      _ = .next ((runSteps f (m :: k :: rest) s).complete f.port) := by
          rw [Micro.progress_port]
          rfl

/-- The row of a command taken with such steps in its pane, on a port served at once. -/
theorem exec_of_copies {i : Instr} (hi : i.command = some (x, c)) (hc : c.WellFormed = true)
    (hfree : s.freeFor x c = true)
    (hstart : startCommand x c (s.grantedNow x c) = (s.grantedNow x c).takeFlight x cut todo)
    (hcopy : ∀ k ∈ todo, k.copies = true) (hfit : ∀ k ∈ todo, k.fits (s.pane (Command.named c)))
    (hl : (s.pane (Command.named c)).view.Legal) (hu : u = (s.delivered x c).setClip x cut) :
    exec i s = .next ((runSteps (grantedFlight x c) todo u).complete x) := by
  have taken : (s.grantedNow x c).takeFlight x cut todo = u.flying (grantedFlight x c) todo := by
    rw [hu]
    cases cut <;> rfl
  have pane : u.pane (grantedFlight x c).pane = s.pane (Command.named c) := by
    rw [hu]
    cases cut <;> rfl
  rw [exec_of_freeFor hi hc hfree, State.begun_eq, beginCommand, hstart, taken]
  cases todo with
  | nil =>
    rw [State.completeIfDone_nil x rfl rfl]
    exact finishFlight_none rfl
  | cons m rest =>
    rw [State.completeIfDone_cons x rfl rfl]
    exact engineSteps_copies m rest hcopy (by rwa [pane]) (by rwa [pane])

end Sys2Proof.Machine
end

section
/-! ### READ_CELLS (R89, R103, R104) -/

namespace Sys2Proof.Machine

variable {s t : State} {f : Flight} {x : Port} {p : PaneId} {row col n : Nat}

/-- What a READ_CELLS that passes its checks has: a defined pane, a row of it and a count (R103). -/
theorem State.readCells_passes (h : s.verdict x (.readCells p row col n) = none) :
    (s.pane p).defined = true ∧ row < (s.pane p).view.height ∧ n ≠ 0 ∧ n ≤ 32 := by
  have checks := State.checks_passed h
  simpa [State.checks, Command.ownerPane, Pane.defined] using checks

theorem startCommand_readCells (h : t.verdict x (.readCells p row col n) = none) :
    startCommand x (.readCells p row col n) t =
      t.takeFlight x (decide ((t.pane p).view.width < col + n)) (readSteps (t.pane p).view row col n) := by
  obtain ⟨hdefined, hrow, hn, hmax⟩ := State.readCells_passes h
  have cut : (decide ((t.pane p).view.width ≤ col) || decide ((t.pane p).view.width < col + n)) =
      decide ((t.pane p).view.width < col + n) := by
    rw [← Bool.decide_or, decide_eq_decide]
    omega
  simp [startCommand, beginReadCells, hdefined, Nat.not_le.mpr hrow, hn, Nat.not_lt.mpr hmax, cut]

/-- A run of reads appends the words of its cells, each pair from the reservation (R89, R104). -/
theorem runSteps_readCells (f : Flight) (row : Nat) (cols : List Nat) (s : State)
    (h : 2 * cols.length ≤ (s.port f.port).reserved) :
    runSteps f (cols.map fun k => .read k row) s = s.setPort f.port { s.port f.port with
      reply := (s.port f.port).reply ++
        cols.flatMap fun k => cellWords (s.cell ((s.pane f.pane).view.cellAddr k row))
      reserved := (s.port f.port).reserved - 2 * cols.length } := by
  induction cols generalizing s with
  | nil =>
    simp only [List.map_nil, runSteps, List.flatMap_nil, List.append_nil, List.length_nil]
    exact (s.setPort_port f.port).symm
  | cons k cols ih =>
    simp only [List.length_cons] at h
    have left : (s.port f.port).reserved - 2 - 2 * cols.length =
        (s.port f.port).reserved - 2 * (k :: cols).length := by
      simp only [List.length_cons]
      omega
    rw [List.map_cons, runSteps, Micro.effect_read f s k row (by omega)]
    refine (ih _ (by rw [State.port_setPort_same]; show _ ≤ (s.port f.port).reserved - 2; omega)).trans ?_
    rw [State.port_setPort_same, State.setPort_setPort]
    simp only [left, List.flatMap_cons, List.append_assoc]
    rfl

/-- The end of a command that left nothing in flight releases the rest of its reservation (R89). -/
theorem State.complete_setPort (h : s.flight = none) (q : PortState) :
    (s.setPort x q).complete x = s.setPort x { q with reserved := 0 } := by
  have idle : ({ s.setPort x q with flight := none } : State) = s.setPort x q := by
    rw [← h]
    rfl
  rw [State.complete, idle, State.updPort_eq, State.port_setPort_same, State.setPort_setPort]
  rfl

/-- Settles O41: the steps of a READ_CELLS are reads of its columns, for which room is reserved. -/
theorem readCellsAppendsPairs : Obligations.ReadCellsAppendsPairs := by
  intro s x p row col n v hc hfree hv hview hl
  subst hview
  obtain ⟨hdefined, hrow, hn, hmax⟩ := State.readCells_passes hv
  have count : clipped col n (s.pane p).view.width = min n ((s.pane p).view.width - col) := by
    unfold clipped
    omega
  obtain ⟨u, hu⟩ : ∃ u, u = (s.delivered x (.readCells p row col n)).setClip x
    (decide ((s.pane p).view.width < col + n)) := ⟨_, rfl⟩
  have steps : readSteps (s.pane p).view row col n =
      ((List.range (clipped col n (s.pane p).view.width)).map (col + ·)).map fun k => .read k row := by
    simp [readSteps, Function.comp_def]
  have reserved : (u.port x).reserved = 2 * n := by
    rw [hu, State.delivered_setClip_reserved, replyNeed, if_pos (by omega)]
  have idle : u.flight = none := by
    rw [hu, State.setClip_flight]
    exact (State.servedAtOnce hfree).idle
  have same : (u.port x).reply = (s.port x).reply ∧ u.panes = s.panes ∧ u.plane = s.plane := by
    rw [hu]
    cases decide ((s.pane p).view.width < col + n) <;>
      exact ⟨by simp [State.setClip, State.delivered, State.port], rfl, rfl⟩
  obtain ⟨reply, panes, plane⟩ := same
  have run := runSteps_readCells (grantedFlight x (.readCells p row col n)) row
    ((List.range (clipped col n (s.pane p).view.width)).map (col + ·)) u
    (by simp [grantedFlight, reserved]; omega)
  rw [exec_of_copies (i := .readCells x p row col n) rfl hc hfree (startCommand_readCells hv)
    (fun k hk => ?_) (readSteps_fits hdefined hrow col n) hl hu]
  · rw [← hu]
    show Host.Outcome.next ((runSteps _ (readSteps (s.pane p).view row col n) u).complete x) = _
    rw [steps, run]
    refine congrArg _ ((State.complete_setPort idle _).trans ?_)
    rw [State.updPort_eq]
    congr 2
    show (u.port x).reply ++ _ = _
    rw [reply, count, List.flatMap_map]
    simp only [State.pane, State.cell, panes, plane]
    rfl
  · obtain ⟨i, -, rfl⟩ := List.mem_map.mp hk
    rfl

end Sys2Proof.Machine
end

section
/-! ### SHIFT (R99-R101) -/

namespace Sys2Proof.Machine

variable {s t : State} {f : Flight} {x : Port} {p : PaneId} {srow scol drow dcol w h : Nat}

/-! #### Cells copied one after another -/

section CopyCells

variable {α : Type} (source target : α → Nat)

/-- Cells copied one after another, each read just before it is written (R100). -/
def State.copyCells (s : State) (l : List α) : State :=
  l.foldl (fun u e => u.writeCell (target e) (u.cell (source e))) s

theorem State.copyCells_cons (s : State) (e : α) (l : List α) :
    s.copyCells source target (e :: l) =
      (s.writeCell (target e) (s.cell (source e))).copyCells source target l := rfl

/-- The copies write the plane, and remove the marks over the cells they write (R75). -/
theorem State.copyCells_eq (l : List α) (s : State) :
    s.copyCells source target l = { s with
      plane := (s.copyCells source target l).plane, marks := marksLeft s.marks (l.map target) } := by
  induction l generalizing s with
  | nil => simp [copyCells, marksLeft]
  | cons e l ih =>
    have first : (s.writeCell (target e) (s.cell (source e))).marks = marksLeft s.marks [target e] := by
      simp [marksLeft]
    rw [copyCells_cons, List.map_cons, ← List.singleton_append, ← marksLeft_append, ← first]
    exact ih _

theorem State.copyCells_wf (l : List α) (s : State) (hwf : s.plane.wf = true) :
    (s.copyCells source target l).plane.wf = true := by
  induction l generalizing s with
  | nil => exact hwf
  | cons e l ih => exact ih _ (Plane.write_wf _ _ hwf)

/-- A cell that is no target stays. -/
theorem State.copyCells_cell_other {l : List α} {a : Nat} (ha : ∀ e ∈ l, a ≠ target e) (s : State) :
    (s.copyCells source target l).cell a = s.cell a := by
  induction l generalizing s with
  | nil => rfl
  | cons e l ih =>
    rw [copyCells_cons, ih fun d hd => ha d (List.mem_cons_of_mem _ hd)]
    exact s.cell_writeCell_other _ (ha e List.mem_cons_self)

/-- Where no cell is written twice and none before it is read, the targets hold what their sources held. -/
theorem State.copyCells_cell {l : List α}
    (hl : l.Pairwise fun e d => target e ≠ target d ∧ source d ≠ target e) (s : State)
    (hwf : s.plane.wf = true) {e : α} (he : e ∈ l) :
    (s.copyCells source target l).cell (target e) = s.cell (source e) := by
  induction l generalizing s with
  | nil => simp at he
  | cons d l ih =>
    obtain ⟨hd, hrest⟩ := List.pairwise_cons.mp hl
    rw [copyCells_cons]
    rcases List.mem_cons.mp he with rfl | he
    · rw [copyCells_cell_other source target fun k hk => (hd k hk).1]
      exact s.cell_writeCell_same _ _ hwf
    · rw [ih hrest _ (Plane.write_wf _ _ hwf) he]
      exact s.cell_writeCell_other _ (hd e he).2

end CopyCells

/-! #### The order of a SHIFT's copy (R100) -/

theorem mem_shiftOffsets {e : Nat × Nat} :
    e ∈ shiftOffsets srow scol drow dcol w h ↔ e.1 < w ∧ e.2 < h := by
  refine ⟨lt_of_mem_shiftOffsets, fun ⟨hw, hh⟩ =>
    List.mem_flatMap.mpr ⟨e.2, ?_, List.mem_map.mpr ⟨e.1, ?_, rfl⟩⟩⟩
  · split <;> simpa using hh
  · split <;> simpa using hw

/-- One direction of the copy: places visited downwards where it moves up, upwards otherwise, are not
visited twice and not written before they are read. -/
theorem pairwise_copyOrder {source target n : Nat} {up : Bool} (hup : up = true → source < target)
    (hdown : up = false → target ≤ source) :
    (if up then (List.range n).reverse else List.range n).Pairwise fun j k =>
      j ≠ k ∧ source + k ≠ target + j := by
  cases up
  · refine List.pairwise_lt_range.imp fun {j k} hjk => ?_
    have := hdown rfl
    omega
  · refine List.pairwise_reverse.mpr (List.pairwise_lt_range.imp fun {j k} hjk => ?_)
    have := hup rfl
    omega

/-- R100's order reads every cell of the source before the copy writes it, and writes none twice. -/
theorem pairwise_shiftOffsets :
    (shiftOffsets srow scol drow dcol w h).Pairwise fun e d =>
      e ≠ d ∧ (scol + d.1, srow + d.2) ≠ (dcol + e.1, drow + e.2) := by
  refine List.pairwise_flatMap.mpr ⟨fun j _ => List.pairwise_map.mpr ?_, ?_⟩
  · by_cases hrow : drow = srow
    · have cols := pairwise_copyOrder (n := w) (source := scol) (target := dcol)
        (up := decide (drow = srow ∧ scol < dcol)) (fun e => (of_decide_eq_true e).2)
        (fun e => Nat.le_of_not_lt fun hlt => of_decide_eq_false e ⟨hrow, hlt⟩)
      simp only [decide_eq_true_eq] at cols
      exact cols.imp fun {i k} ⟨hne, hcol⟩ => ⟨fun e => hne (congrArg Prod.fst e),
        fun e => hcol (congrArg Prod.fst e)⟩
    · rw [if_neg fun e => hrow e.1]
      exact List.pairwise_lt_range.imp fun {i k} hik => ⟨fun e => hik.ne (congrArg Prod.fst e),
        fun e => hrow (Nat.add_right_cancel (congrArg Prod.snd e)).symm⟩
  · have rows := pairwise_copyOrder (n := h) (source := srow) (target := drow)
      (up := decide (srow < drow)) of_decide_eq_true fun e => Nat.le_of_not_lt (of_decide_eq_false e)
    simp only [decide_eq_true_eq] at rows
    refine rows.imp fun {j k} ⟨hne, hrow⟩ e he d hd => ?_
    obtain ⟨i, -, rfl⟩ := List.mem_map.mp he
    obtain ⟨l, -, rfl⟩ := List.mem_map.mp hd
    exact ⟨fun e => hne (congrArg Prod.snd e), fun e => hrow (congrArg Prod.snd e)⟩

/-! #### The steps -/

/-- What a SHIFT that passes its checks has: an owned, defined pane that holds both corners (R99). -/
theorem State.shift_passes (hv : s.verdict x (.shift p srow scol drow dcol w h) = none) :
    s.owns x p = true ∧ (s.pane p).defined = true ∧ srow < (s.pane p).view.height ∧
      drow < (s.pane p).view.height ∧ scol < (s.pane p).view.width ∧ dcol < (s.pane p).view.width := by
  have checks := State.checks_passed hv
  simpa [State.checks, Command.ownerPane, State.owns, Pane.defined, and_assoc] using checks

theorem startCommand_shift (hv : t.verdict x (.shift p srow scol drow dcol w h) = none) :
    startCommand x (.shift p srow scol drow dcol w h) t =
      t.takeFlight x
        (decide (shiftWidth (t.pane p).view scol dcol w < w ∨
          shiftHeight (t.pane p).view srow drow h < h))
        (shiftSteps (t.pane p).view srow scol drow dcol w h) := by
  obtain ⟨howns, hdefined, hsrow, hdrow, hscol, hdcol⟩ := State.shift_passes hv
  simp [startCommand, beginShift, howns, hdefined, Nat.not_le.mpr hsrow, Nat.not_le.mpr hdrow,
    Nat.not_le.mpr hscol, Nat.not_le.mpr hdcol]

/-- A run of a SHIFT's steps is its copies. -/
theorem runSteps_shift (source target : Nat × Nat → Nat × Nat) (l : List (Nat × Nat)) (f : Flight)
    (s : State) (v : PaneView) (hv : (s.pane f.pane).view = v) (hf : f.held = none) :
    runSteps f (l.flatMap fun e =>
        [.load (source e).1 (source e).2, .store (target e).1 (target e).2]) s =
      s.copyCells (fun e => v.cellAddr (source e).1 (source e).2)
        (fun e => v.cellAddr (target e).1 (target e).2) l := by
  induction l generalizing s with
  | nil => rfl
  | cons e l ih =>
    have back : ({ f with held := none } : Flight) = f := by rw [← hf]
    rw [State.copyCells_cons, List.flatMap_cons, List.cons_append, List.cons_append, List.nil_append,
      runSteps, runSteps]
    subst hv
    simp only [Micro.progress, Micro.effect, back]
    exact ih _ rfl

/-- Settles O39: R100's order never reads a cell the copy has written. -/
theorem shiftCopiesTheRectangle : Obligations.ShiftCopiesTheRectangle := by
  intro s x p srow scol drow dcol w h v w' h' offsets hc hfree hv hview hl hwf hw' hh' hoffsets
  obtain ⟨howns, hdefined, hsrow, hdrow, hscol, hdcol⟩ := State.shift_passes hv
  have wide : w' = shiftWidth v scol dcol w := hw'
  have high : h' = shiftHeight v srow drow h := hh'
  have mem : ∀ e, e ∈ offsets ↔ e ∈ shiftOffsets srow scol drow dcol w' h' := fun e => by
    rw [mem_shiftOffsets, hoffsets]
    simp [List.mem_flatMap, Prod.ext_iff, and_comm]
  have inside : ∀ e ∈ shiftOffsets srow scol drow dcol w' h',
      scol + e.1 < v.width ∧ dcol + e.1 < v.width ∧ srow + e.2 < v.height ∧ drow + e.2 < v.height :=
    fun e he => by
      have := mem_shiftOffsets.mp he
      omega
  have order : (shiftOffsets srow scol drow dcol w' h').Pairwise fun e d =>
      v.cellAddr (dcol + e.1) (drow + e.2) ≠ v.cellAddr (dcol + d.1) (drow + d.2) ∧
        v.cellAddr (scol + d.1) (srow + d.2) ≠ v.cellAddr (dcol + e.1) (drow + e.2) := by
    refine pairwise_shiftOffsets.imp_of_mem fun {e d} he hd ⟨hne, hread⟩ => ?_
    obtain ⟨hes, hed, hesr, hedr⟩ := inside e he
    obtain ⟨hds, hdd, hdsr, hddr⟩ := inside d hd
    refine ⟨fun same => hne ?_, fun same => hread ?_⟩
    · obtain ⟨hcol, hrow⟩ := hl.cellAddr_inj hed hdd hedr hddr same
      exact Prod.ext (Nat.add_left_cancel hcol) (Nat.add_left_cancel hrow)
    · obtain ⟨hcol, hrow⟩ := hl.cellAddr_inj hds hed hdsr hedr same
      exact Prod.ext hcol hrow
  obtain ⟨u, hu⟩ : ∃ u, u = (s.delivered x (.shift p srow scol drow dcol w h)).setClip x
    (decide (w' < w ∨ h' < h)) := ⟨_, rfl⟩
  have plane : u.plane = s.plane := by rw [hu, State.setClip_plane]; rfl
  have cell : ∀ a, u.cell a = s.cell a := fun a => by unfold State.cell; rw [plane]
  have marks : u.marks = s.marks := by rw [hu, State.setClip_marks]; rfl
  have view : (u.pane p).view = v := by
    rw [hview]
    unfold State.pane
    rw [hu, State.setClip_panes]
    rfl
  have idle : u.flight = none := by
    rw [hu, State.setClip_flight]
    exact (State.servedAtOnce hfree).idle
  obtain ⟨r, hr⟩ : ∃ r, r = u.copyCells (fun e => v.cellAddr (scol + e.1) (srow + e.2))
    (fun e => v.cellAddr (dcol + e.1) (drow + e.2)) (shiftOffsets srow scol drow dcol w' h') := ⟨_, rfl⟩
  have only := State.copyCells_eq (fun e : Nat × Nat => v.cellAddr (scol + e.1) (srow + e.2))
    (fun e => v.cellAddr (dcol + e.1) (drow + e.2)) (shiftOffsets srow scol drow dcol w' h') u
  rw [← hr] at only
  have completes : r.complete x = r := by
    refine State.complete_idle (by rw [only]; exact idle) ?_
    rw [only]
    show (u.port x).reserved = 0
    rw [hu, State.delivered_setClip_reserved]
    rfl
  refine ⟨r, ?_, ?_, fun e he => ?_, fun a ha => ?_, ?_⟩
  · rw [exec_of_copies (i := .shift x p srow scol drow dcol w h) (u := u) rfl hc hfree
      (startCommand_shift hv) (fun k hk => ?_) (shiftSteps_fits hdefined _ _ _ _ _ _)
      (by rw [hview] at hl; exact hl) (by rw [hu, wide, high, hview]; rfl)]
    · refine congrArg _ (Eq.trans ?_ completes)
      rw [hr, ← runSteps_shift (fun e => (scol + e.1, srow + e.2)) (fun e => (dcol + e.1, drow + e.2)) _
        (grantedFlight x (.shift p srow scol drow dcol w h)) u v view rfl, wide, high, hview]
      rfl
    · obtain ⟨e, -, he⟩ := List.mem_flatMap.mp hk
      rcases List.mem_pair.mp he with rfl | rfl <;> rfl
  · rw [hr]
    exact State.copyCells_wf _ _ _ u (by rwa [plane])
  · rw [hr, State.copyCells_cell _ _ order u (by rwa [plane]) ((mem e).mp he), cell]
  · rw [hr, State.copyCells_cell_other _ _ fun e he => ha e ((mem e).mpr he), cell]
  · refine only.trans ?_
    rw [marks, ← hu]
    have same : marksLeft s.marks (v.addresses (offsets.map fun e => (dcol + e.1, drow + e.2))) =
        marksLeft s.marks ((shiftOffsets srow scol drow dcol w' h').map
          fun e => v.cellAddr (dcol + e.1) (drow + e.2)) := marksLeft_congr _ fun a => by
      simp [PaneView.addresses, mem]
    rw [same]

end Sys2Proof.Machine
end

section
/-! ### PORT_RESET and its release (R30, R108, R145, R191, R192) -/

namespace Sys2Proof.Machine

variable {s : State} {x : Port}

/-! #### The stop of the port's command (R108) -/

/-- The stop of a command changes the plane, the mark table and the command in flight alone. -/
theorem State.abortFlight_eq (s : State) (x : Port) : s.abortFlight x = { s with
    plane := (s.abortFlight x).plane, marks := (s.abortFlight x).marks
    flight := (s.abortFlight x).flight } := by
  have store : ∀ (f : Flight) (col row : Nat), (Micro.store col row).effect f s = { s with
      plane := ((Micro.store col row).effect f s).plane
      marks := ((Micro.store col row).effect f s).marks } := fun f col row => by
    simp only [Micro.effect]
    split <;> rfl
  unfold State.abortFlight
  split
  · rfl
  · rename_i f _
    split
    · rfl
    · split
      · split
        · rw [store]
        · rfl
      · rfl

/-- A command of another port goes on. -/
theorem State.abortFlight_other (h : s.flight.map Flight.port ≠ some x) : s.abortFlight x = s := by
  cases hf : s.flight with
  | none => simp only [abortFlight, hf]
  | some f => simp_all [abortFlight]

/-- The port's command is stopped: nothing is in flight. -/
theorem State.abortFlight_flight (h : s.flight.map Flight.port = some x) :
    (s.abortFlight x).flight = none := by
  obtain ⟨f, hf, hx⟩ := Option.map_eq_some_iff.mp h
  simp only [abortFlight, hf, hx, ne_eq, not_true_eq_false, if_false]
  split
  · split <;> rfl
  · rfl

/-- A SHIFT that holds a cell writes it first. -/
theorem State.abortFlight_store {f : Flight} {col row : Nat} {rest : List Micro} {cell : Cell}
    (hf : s.flight = some f) (hx : f.port = x) (ht : f.todo = .store col row :: rest)
    (hheld : f.held = some cell)
    (ha : (s.pane f.pane).view.cellAddr col row < Config.planeSize) :
    s.abortFlight x =
      { s.writeCell ((s.pane f.pane).view.cellAddr col row) cell with flight := none } := by
  simp only [abortFlight, hf, hx, ht, ha, ne_eq, not_true_eq_false, if_false, if_true, Micro.effect,
    hheld]

/-- A command with no cell in hand leaves the plane and the marks. -/
theorem State.abortFlight_unread
    (h : ∀ f col row rest, s.flight = some f → f.port = x → f.todo = .store col row :: rest →
      f.held = none) :
    (s.abortFlight x).plane = s.plane ∧ (s.abortFlight x).marks = s.marks := by
  unfold abortFlight
  split
  · exact ⟨rfl, rfl⟩
  · rename_i f hf
    split
    · exact ⟨rfl, rfl⟩
    · rename_i hx
      split
      · rename_i col row rest ht
        split
        · simp only [Micro.effect, h f col row rest hf (not_not.mp hx) ht, and_self]
        · exact ⟨rfl, rfl⟩
      · exact ⟨rfl, rfl⟩

/-! #### The cursor and the panes (R30, R145) -/

theorem State.dropCursor_eq (s : State) (x : Port) :
    s.dropCursor x =
      if s.holder = some x ∨ (s.cursor.mode ≠ .off ∧ (s.pane s.cursor.pane).owner = some x) then
        s.cursorOff
      else s := by
  simp only [State.dropCursor, State.owns, Bool.or_eq_true, Bool.and_eq_true, decide_eq_true_eq]

theorem State.pane_releaseAll (s : State) (x : Port) (p : PaneId) :
    (s.releaseAll x).pane p =
      if (s.pane p).owner = some x then Pane.released (s.pane p) x else s.pane p := by
  simp only [State.pane, State.releaseAll, Fin.getElem_fin, Vector.getElem_map]
  rfl

/-! #### The reset -/

/-- The part of a port's reset before the arbiter's search. -/
def State.lineReset (s : State) (x : Port) : State :=
  (((s.abortFlight x).dropCursor x).releaseAll x).updPort x PortState.lineReset

theorem onPortReset_eq (h : (s.port x).held = false) : onPortReset x s = s.lineReset x := by
  simp only [onPortReset, h, Bool.false_eq_true, if_false]
  rfl

/-- What each block of the part is after the reset, by the one piece of it that changes the block. -/
theorem State.lineReset_eq (s : State) (x : Port) :
    s.lineReset x = { s with
      ports := s.ports.set x (PortState.lineReset (s.port x))
      panes := (s.releaseAll x).panes
      cursor := (s.dropCursor x).cursor
      holder := (s.dropCursor x).holder
      flight := (s.abortFlight x).flight
      plane := (s.abortFlight x).plane
      marks := (s.abortFlight x).marks } := by
  rw [State.lineReset, State.abortFlight_eq, State.dropCursor_eq s]
  by_cases h : s.holder = some x ∨ (s.cursor.mode ≠ .off ∧ (s.pane s.cursor.pane).owner = some x)
  · rw [State.dropCursor_eq, if_pos (by exact h), if_pos h]
    rfl
  · rw [State.dropCursor_eq, if_neg (by exact h), if_neg h]
    rfl

/-- Settles O52: each block's next state is that of the one piece of the reset that changes it. -/
theorem portResetStopsAndReleases : Obligations.PortResetStopsAndReleases := by
  refine ⟨fun s x held => ?_, fun s x held => ⟨s.lineReset x, ?_, ?_, fun y hy => ?_, fun p => ?_, ?_,
    ⟨fun h => ?_, fun h => ?_⟩, fun f col row rest cell a hf hx ht hheld ha hlt => ?_, fun h => ?_, ?_⟩,
    fun _ _ => rfl⟩
  · show Host.Outcome.next (onPortReset x s).arbitrate = _
    rw [onPortReset, if_pos held]
  · show Host.Outcome.next (onPortReset x s).arbitrate = _
    rw [onPortReset_eq held]
  · rw [State.lineReset_eq]
    exact Ports.get_set_same _ _ _
  · rw [State.lineReset_eq]
    exact Ports.get_set_other _ _ hy
  · rw [State.lineReset_eq]
    exact State.pane_releaseAll s x p
  · rw [State.lineReset_eq, State.dropCursor_eq]
    split <;> exact ⟨rfl, rfl⟩
  · rw [State.lineReset_eq]
    exact State.abortFlight_flight h
  · rw [State.lineReset_eq, State.abortFlight_other h]
  · subst ha
    rw [State.lineReset_eq, State.abortFlight_store hf hx ht hheld hlt]
    exact ⟨rfl, rfl⟩
  · rw [State.lineReset_eq]
    exact State.abortFlight_unread h
  · rw [State.lineReset_eq]

end Sys2Proof.Machine
end

section
/-! ### Laws of the ports: what keeps a port in order at every step

A law that speaks of each port alone is kept by every step when the few things that happen to a port keep
it. -/

namespace Sys2Proof.Machine

variable {s t : State} {i : Instr}

/-- A law of one port, kept by each thing that happens to a port: its lines, the words and the end of a
transfer, a fault, a grant, reply words and the resets. -/
structure PortLaw (Q : PortState → Prop) : Prop where
  lines : ∀ p selLow sentBits held clip waiting, Q p → Q { p with
    selLow := selLow, sentBits := sentBits, held := held, clip := clip, waiting := waiting }
  closes : ∀ p, Q p → Q { p with openT := none }
  opens : ∀ p a b, Q p → parityGood a = true → parityGood b = true →
    Q { p with sent := [], openT := some (OpenTransfer.begun a b) }
  shiftOut : ∀ p o, Q p → p.openT = some o → Q (p.shiftOut o)
  records : ∀ p o o', Q p → p.openT = some o → o'.statusB = o.statusB → o'.outWord = o.outWord →
    (o'.queued.length ≤ o.queued.length ∨
      (p.wordsHeld < Config.queueWords ∧ o'.queued.length = o.queued.length + 1)) →
    Q { p with openT := some o' }
  chooseOut : ∀ p, Q p → Q p.chooseOut
  enqueues : ∀ p o, Q p → p.openT = some o → p.faults.condition ≠ .halted →
    Q { p with openT := none, queue := p.queue ++ [o.queued] }
  replies : ∀ p ws, Q p → (∀ w ∈ ws, parityGood w = true) → ws.length ≤ p.room →
    Q { p with reply := p.reply ++ ws }
  modes : ∀ p l r c, Q p → Q { p with
    faults := { p.faults with linkMode := l, refuseMode := r, lastRefusal := c } }
  faults : ∀ m flags p, Q p → flags ≠ [] → Q (FaultMode.act m flags p)
  runs : ∀ p sticky c clip, Q p → Q { p with
    faults := { p.faults with
      sticky := sticky, lastRefusal := c, condition := .running, retry := none }
    clip := clip }
  grants : ∀ p w rest n, Q p → p.queue = w :: rest → n ≤ p.room →
    Q { p with queue := rest, reserved := p.reserved + n }
  releases : ∀ p, Q p → Q { p with reserved := 0 }
  appends : ∀ p w, Q p → parityGood w = true → p.reserved ≠ 0 →
    Q { p with reply := p.reply ++ [w], reserved := p.reserved - 1 }
  resets : ∀ p held selLow sent sentBits, Q p → (sent = p.sent ∨ sent = []) →
    Q { PortState.atReset with held := held, selLow := selLow, sent := sent, sentBits := sentBits }
  empties : ∀ p, Q p → Q { p with openT := none, queue := [], reply := [], reserved := 0 }

/-- Every word the engine or a service command makes has good parity (R173). -/
theorem parityGood_made {ws : List Word} (h : ∀ w ∈ ws, ∃ n, w = mkWord n) :
    ∀ w ∈ ws, parityGood w = true := fun w hw => by
  obtain ⟨n, rfl⟩ := h w hw
  exact parityGood_mkWord n

theorem parityGood_cellWords (c : Cell) : ∀ w ∈ cellWords c, parityGood w = true :=
  parityGood_made fun w hw => by
    simp only [cellWords, List.mem_cons, List.not_mem_nil, or_false] at hw
    rcases hw with rfl | rfl <;> exact ⟨_, rfl⟩

theorem parityGood_readBackWords (row : Nat → BitVec 8) :
    ∀ w ∈ readBackWords row, parityGood w = true :=
  parityGood_made fun w hw => by
    obtain ⟨k, -, rfl⟩ := List.mem_map.mp hw
    exact ⟨_, rfl⟩

theorem parityGood_faultWords (r : FaultRecord) : ∀ w ∈ r.words, parityGood w = true :=
  parityGood_made fun w hw => by
    simp only [FaultRecord.words, List.mem_cons, List.not_mem_nil, or_false] at hw
    rcases hw with rfl | rfl | rfl <;> exact ⟨_, rfl⟩

theorem parityGood_identWords : ∀ w ∈ identWords, parityGood w = true :=
  parityGood_made fun w hw => by
    simp only [identWords, List.mem_cons, List.not_mem_nil, or_false] at hw
    rcases hw with rfl | rfl | rfl | rfl <;> exact ⟨_, rfl⟩

/-- What a step of the engine does to the ports: nothing, or reply words, CLIP or a refusal on the port of
the command. -/
theorem Micro.effect_ports_cases (f : Flight) (m : Micro) (s : State) :
    (m.effect f s).ports = s.ports ∨
      (∃ ws, (∀ w ∈ ws, parityGood w = true) ∧
        (m.effect f s).ports = s.ports.set f.port ((s.port f.port).appendReply ws)) ∨
      (m.effect f s).ports = s.ports.set f.port { s.port f.port with clip := true } ∨
      ∃ code, (m.effect f s).ports = s.ports.set f.port ((s.port f.port).refuse code) := by
  cases m
  case put | store | arrow | markEvent =>
    refine .inl ?_
    simp only [Micro.effect]
    split <;> rfl
  case read col row => exact .inr (.inl ⟨_, parityGood_cellWords _, rfl⟩)
  case readBitmap b slot code => exact .inr (.inl ⟨_, parityGood_readBackWords _, rfl⟩)
  case discard => exact .inr (.inr (.inl rfl))
  case refuse code => exact .inr (.inr (.inr ⟨code, rfl⟩))
  case load | readOld | tint | clearCell | text | putCode | advance => exact .inl rfl

namespace PortLaw

variable {Q : PortState → Prop} (law : PortLaw Q)

include law

/-! #### One port -/

theorem linkFault (p : PortState) {flags : List Flag} (hp : Q p) (h : flags ≠ []) :
    Q (p.linkFault flags) := law.faults _ flags p hp h

theorem refuse (p : PortState) (code : RefusalCode) (hp : Q p) : Q (p.refuse code) :=
  law.modes _ _ _ (some code) (law.faults p.faults.refuseMode [code.flag] p hp (List.cons_ne_nil _ _))

theorem appendReply {ws : List Word} (h : ∀ w ∈ ws, parityGood w = true) (p : PortState) (hp : Q p) :
    Q (p.appendReply ws) := by
  induction ws generalizing p with
  | nil => exact hp
  | cons w ws ih =>
    refine ih (fun v hv => h v (List.mem_cons_of_mem _ hv)) _ ?_
    unfold PortState.appendReserved
    split
    · exact hp
    · exact law.appends p w hp (h w List.mem_cons_self) ‹_›

/-- An in word taken keeps the law. -/
theorem takeIn {p : PortState} {o : OpenTransfer} (w : Word) (hp : Q p) (ho : p.openT = some o) :
    Q (p.takeIn o w) := by
  have status : (o.read w).statusB = o.statusB ∧ (o.read w).outWord = o.outWord ∧
      (o.read w).queued = o.queued := by
    unfold OpenTransfer.read
    split <;> exact ⟨rfl, rfl, rfl⟩
  obtain ⟨statusB, outWord, queued⟩ := status
  unfold PortState.takeIn
  split
  · exact hp
  · dsimp only
    split
    · split
      · exact law.linkFault _ (law.records p o _ hp ho statusB outWord (.inl (Nat.zero_le _)))
          (List.cons_ne_nil _ _)
      · refine law.records p o _ hp ho statusB outWord (.inr ⟨Nat.lt_of_not_le ‹_›, ?_⟩)
        simp [queued]
    · exact law.records p o _ hp ho statusB outWord (.inl (by rw [queued]))

theorem sampled (p : PortState) (w : Word) (hp : Q p) : Q (p.sampled w) := by
  unfold PortState.sampled
  split
  · exact hp
  · rename_i o ho
    exact law.chooseOut _ (law.takeIn w (law.shiftOut p o hp ho) ho)

theorem appendService {p : PortState} {ws : List Word} (hp : Q p)
    (h : ∀ w ∈ ws, parityGood w = true) : Q (p.appendService ws) := by
  unfold PortState.appendService
  split
  · exact law.replies p ws hp h ‹_›
  · exact law.linkFault p hp (List.cons_ne_nil _ _)

theorem setMode {p : PortState} (cls newMode : Nat) (hp : Q p) : Q (p.setMode cls newMode) := by
  unfold PortState.setMode
  split
  · exact hp
  · split
    · exact law.modes p _ p.faults.refuseMode p.faults.lastRefusal hp
    · split
      · exact law.modes p p.faults.linkMode _ p.faults.lastRefusal hp
      · exact hp

theorem takeService {p : PortState} (locked : Bool) (code : Nat) (heldWords : List Word) (hp : Q p) :
    Q (p.takeService locked code heldWords) := by
  unfold PortState.takeService
  split
  · exact law.appendService hp (parityGood_faultWords _)
  · exact law.runs p _ none false hp
  · split
    · exact law.setMode _ _ hp
    · exact hp
  · exact law.appendService hp parityGood_identWords
  · exact hp

/-- The end of a transfer keeps the law. -/
theorem endTransfer {p : PortState} {o : OpenTransfer} (locked : Bool) (k : Nat) (hp : Q p)
    (ho : p.openT = some o) : Q (p.endTransfer locked { o with partialBits := k }) := by
  have closed : Q p.discardOpen := law.closes p hp
  unfold PortState.endTransfer
  dsimp only
  split
  · exact closed
  · split
    · rename_i bad
      exact law.linkFault _ closed (by simpa using bad)
    · split
      · exact closed
      · split
        · split
          · exact closed
          · exact law.enqueues p o hp ho ‹_›
        · exact law.takeService _ _ _ closed

/-! #### The part -/

omit law in
/-- One port replaced by one in order. -/
theorem of_set {y : Port} {q : PortState} (hs : ∀ x, Q (s.port x)) (ht : t.ports = s.ports.set y q)
    (hq : Q q) : ∀ x, Q (t.port x) := fun x => by
  unfold State.port
  rw [ht]
  by_cases hx : x = y
  · subst hx
    rwa [Ports.get_set_same]
  · rw [Ports.get_set_other _ _ hx]
    exact hs x

omit law in
/-- Ports as they were. -/
theorem of_ports (hs : ∀ x, Q (s.port x)) (ht : t.ports = s.ports) : ∀ x, Q (t.port x) := fun x => by
  unfold State.port
  rw [ht]
  exact hs x

omit law in
/-- The same change made to each port. -/
theorem of_map {g : PortState → PortState} (hs : ∀ x, Q (s.port x)) (ht : t.ports = s.ports.map g)
    (hg : ∀ p, Q p → Q (g p)) : ∀ x, Q (t.port x) := fun x => by
  unfold State.port
  rw [ht, Ports.get_map]
  exact hg _ (hs x)

theorem transferStart (x : Port) (s : State) (hs : ∀ y, Q (s.port y)) :
    ∀ y, Q ((onTransferStart x s).port y) := by
  simp only [onTransferStart]
  split
  · exact hs
  · split
    · exact of_set hs rfl (law.lines _ true [] _ (s.port x).clip (s.port x).waiting
        (law.opens (s.port x) _ _ (hs x) (parityGood_mkWord _) (parityGood_mkWord _)))
    · exact of_set hs rfl (law.lines (s.port x) true _ _ _ _ (hs x))

theorem wordSampled (x : Port) (w : Word) (s : State) (hs : ∀ y, Q (s.port y)) :
    ∀ y, Q ((onWordSampled x w s).port y) := by
  rw [onWordSampled_eq]
  split
  · exact of_set hs rfl (law.sampled _ w (hs x))
  · exact hs

theorem transferEnd (x : Port) (k : Fin 16) (s : State) (hs : ∀ y, Q (s.port y)) :
    ∀ y, Q ((onTransferEnd x k s).port y) := by
  unfold onTransferEnd
  split
  · exact hs
  · refine of_set hs rfl ?_
    beta_reduce
    split
    · exact law.lines (s.port x) false _ _ _ _ (hs x)
    · rename_i o ho
      exact law.endTransfer _ _ (law.lines (s.port x) false _ _ _ _ (hs x)) ho

/-- A grant keeps the law: a port is granted where its reply has room. -/
theorem grantTo (s : State) (x : Port) (hs : ∀ y, Q (s.port y)) (hpick : s.arbiterPick = some x) :
    ∀ y, Q ((grantTo x s).port y) := by
  obtain ⟨-, -, -, w, rest, hq, room⟩ := State.eligible_facts (State.arbiterPick_some hpick).2
  rcases grantTo_cases x s with ⟨-, e⟩ | ⟨w', rest', hq', ⟨-, e⟩ | ⟨c, hc, e⟩⟩
  · rw [e]
    exact hs
  · rw [e]
    exact of_set hs rfl (law.grants _ w' rest' 0 (hs x) hq' (Nat.zero_le _))
  · obtain ⟨rfl, rfl⟩ := List.cons.inj (hq.symm.trans hq')
    rw [hc] at room
    have granted : ∀ y, Q ((s.granted x w rest c).port y) :=
      of_set hs rfl (law.grants _ w rest _ (hs x) hq room)
    obtain ⟨⟨clip, waiting, ports⟩, -⟩ := startCommand_frame x c (s.granted x w rest c)
    have started := of_set granted ports
      (law.lines _ ((s.granted x w rest c).port x).selLow ((s.granted x w rest c).port x).sentBits
        ((s.granted x w rest c).port x).held clip waiting (granted x))
    rw [e, beginCommand]
    rcases State.completeIfDone_cases (startCommand x c (s.granted x w rest c)) x with h | h <;> rw [h]
    · exact started
    · exact of_set started rfl (law.releases _ (started x))

theorem effect (f : Flight) (m : Micro) (s : State) (hs : ∀ y, Q (s.port y)) :
    ∀ y, Q ((m.effect f s).port y) := by
  rcases m.effect_ports_cases f s with e | ⟨ws, good, e⟩ | e | ⟨code, e⟩
  · exact of_ports hs e
  · exact of_set hs e (law.appendReply good _ (hs _))
  · exact of_set hs e (law.lines (s.port f.port) _ _ _ true _ (hs _))
  · exact of_set hs e (law.refuse _ code (hs _))

theorem engineStep (s t : State) (hs : ∀ y, Q (s.port y)) (h : engineStep s = .next t) :
    ∀ y, Q (t.port y) := by
  rcases engineStep_next h with ⟨-, rfl⟩ | ⟨f, -, -, rfl⟩ | ⟨f, m, rest, -, -, -, rfl⟩
  · exact hs
  · exact of_set (s := { s with flight := none }) hs rfl (law.releases _ (hs _))
  · have done := law.effect f m s hs
    simp only [State.stepDone]
    split
    · exact of_set (s := { m.effect f s with flight := none }) done rfl (law.releases _ (done _))
    · exact done

theorem frameStart (o : LatchOrder) (s : State) (hs : ∀ y, Q (s.port y)) :
    ∀ y, Q ((onFrameStart o s).port y) := by
  unfold onFrameStart
  split
  · exact of_map hs (State.frameStart_ports s o) fun p hp =>
      law.lines p p.selLow p.sentBits p.held p.clip false hp
  · exact hs

theorem portReset (x : Port) (s : State) (hs : ∀ y, Q (s.port y)) :
    ∀ y, Q ((onPortReset x s).port y) := by
  cases hheld : (s.port x).held
  · rw [onPortReset_eq hheld, State.lineReset_eq]
    exact of_set hs rfl (law.resets (s.port x) _ _ _ _ (hs x) (.inl rfl))
  · rw [onPortReset, if_pos hheld]
    exact hs

theorem retryExpiry (x : Port) (s : State) (hs : ∀ y, Q (s.port y)) :
    ∀ y, Q ((onRetryExpiry x s).port y) := by
  refine of_set hs rfl ?_
  beta_reduce
  split
  · exact law.runs (s.port x) (s.port x).faults.sticky (s.port x).faults.lastRefusal _ (hs x)
  · exact hs x

/-- An event keeps the law. -/
theorem exec (i : Instr) (hs : ∀ y, Q (s.port y)) (h : exec i s = .next t) : ∀ y, Q (t.port y) := by
  refine exec_keeps (P := fun s => ∀ y, Q (s.port y)) law.transferStart law.wordSampled
    law.transferEnd law.grantTo law.engineStep (fun osel tsel s hs => ?_) (fun s hs => ?_)
    (fun o s hs => ?_) (fun o s hs => ?_) (fun s hs => ?_) law.frameStart law.retryExpiry
    law.portReset (fun x s hs => ?_) (fun s hs => ?_) (fun s hs => ?_) (fun s hs => ?_) i hs h
  · exact of_map hs rfl fun p hp => law.resets p p.held p.selLow [] [] hp (.inr rfl)
  · exact of_map hs rfl law.empties
  · unfold onClearComplete
    split
    · exact law.frameStart o _ hs
    · exact hs
  · unfold onLockAchieved
    split
    · exact law.frameStart o _ hs
    · exact hs
  · unfold onLossOfLock
    split
    · exact of_map hs rfl fun p hp => law.faults .report [.clock] p hp (List.cons_ne_nil _ _)
    · exact hs
  · exact of_set hs rfl (law.lines (s.port x) _ _ false _ _ (hs x))
  · unfold onWakePulse
    split
    · exact of_map hs rfl fun p hp => law.runs p _ none false hp
    · exact hs
  · unfold onStandbyEntry
    split
    · exact of_map hs rfl law.closes
    · exact hs
  · unfold onStandbyExit
    split <;> exact hs

/-- A step keeps the law. -/
theorem step (hs : ∀ y, Q (s.port y)) (h : step s = .next t) : ∀ y, Q (t.port y) := by
  unfold Machine.step at h
  split at h
  · exact Host.Outcome.next.inj h ▸ hs
  · rename_i i rest _
    exact law.exec (s := { s with pending := rest }) i hs h

end PortLaw

end Sys2Proof.Machine
end

section
/-! ### Buffers and parity at every step (R89, R173, R176, R180, R181) -/

namespace Sys2Proof.Machine

variable {p : PortState} {o : OpenTransfer} {w : Word}

/-! #### Queue and reply buffer -/

/-- A port keeps the sizes of its queue and its reply buffer (R180, R181). -/
def PortState.Bounded (p : PortState) : Prop :=
  p.wordsHeld ≤ Config.queueWords ∧ p.reply.length + p.reserved ≤ Config.replyWords

theorem PortState.wordsHeld_open (p : PortState) (o : OpenTransfer) :
    { p with openT := some o }.wordsHeld = (p.queue.map List.length).sum + o.queued.length := rfl

theorem PortState.wordsHeld_of_open (ho : p.openT = some o) :
    p.wordsHeld = (p.queue.map List.length).sum + o.queued.length := by
  simp [PortState.wordsHeld, ho]

/-- The next out word does not touch the queue. -/
theorem PortState.chooseOut_frame (p : PortState) :
    ∃ openT : Option OpenTransfer, p.chooseOut = { p with openT := openT } ∧
      openT.map (fun o => o.queued.length) = p.openT.map (fun o => o.queued.length) := by
  unfold PortState.chooseOut
  split
  · exact ⟨p.openT, rfl, rfl⟩
  · rename_i o ho
    rw [ho]
    split
    · exact ⟨_, rfl, rfl⟩
    · split
      · split <;> exact ⟨_, rfl, rfl⟩
      · exact ⟨_, rfl, rfl⟩

/-- A queue emptied holds no more words. -/
theorem FaultMode.act_wordsHeld_le (m : FaultMode) (flags : List Flag) (p : PortState) :
    (m.act flags p).wordsHeld ≤ p.wordsHeld := by
  have queue := m.act_queue flags p
  rw [m.act_frame flags p]
  unfold PortState.wordsHeld
  simp only [queue]
  split
  · simp
  · exact le_rfl

/-- Words stay within the sizes of their buffers (R180, R181). -/
theorem bounded_portLaw : PortLaw PortState.Bounded where
  lines := fun _ _ _ _ _ _ hp => hp
  closes := fun p ⟨held, reply⟩ => ⟨(Nat.le_add_right _ _).trans held, reply⟩
  opens := fun p a b ⟨held, reply⟩ _ _ => ⟨(Nat.le_add_right _ _).trans held, reply⟩
  shiftOut := fun p o ⟨held, reply⟩ ho => by
    refine ⟨held, ?_⟩
    show (if o.outReply then p.reply.tail else p.reply).length + p.reserved ≤ _
    split
    · rw [List.length_tail]
      omega
    · exact reply
  records := fun p o o' ⟨held, reply⟩ ho _ _ hqueued => by
    refine ⟨?_, reply⟩
    rw [PortState.wordsHeld_of_open ho] at held hqueued
    rw [PortState.wordsHeld_open]
    omega
  chooseOut := fun p ⟨held, reply⟩ => by
    obtain ⟨openT, e, queued⟩ := p.chooseOut_frame
    rw [e]
    refine ⟨?_, reply⟩
    unfold PortState.wordsHeld at held ⊢
    rwa [queued]
  enqueues := fun p o ⟨held, reply⟩ ho _ => by
    refine ⟨?_, reply⟩
    rw [PortState.wordsHeld_of_open ho] at held
    simpa [PortState.wordsHeld] using held
  replies := fun p ws ⟨held, reply⟩ _ room => by
    refine ⟨held, ?_⟩
    simp only [PortState.room] at room
    simp only [List.length_append]
    omega
  modes := fun _ _ _ _ hp => hp
  faults := fun m flags p ⟨held, reply⟩ _ => by
    refine ⟨(m.act_wordsHeld_le flags p).trans held, ?_⟩
    rw [m.act_frame flags p]
    exact reply
  runs := fun _ _ _ _ hp => hp
  grants := fun p w rest n ⟨held, reply⟩ hq room => by
    simp only [PortState.room] at room
    refine ⟨?_, by show p.reply.length + (p.reserved + n) ≤ _; omega⟩
    simp only [PortState.wordsHeld, hq, List.map_cons, List.sum_cons] at held ⊢
    omega
  releases := fun p ⟨held, reply⟩ => ⟨held, (Nat.le_add_right _ _).trans reply⟩
  appends := fun p w ⟨held, reply⟩ _ reserved => by
    refine ⟨held, ?_⟩
    simp only [List.length_append, List.length_singleton]
    omega
  resets := fun _ _ _ _ _ _ _ => ⟨Nat.zero_le _, Nat.zero_le _⟩
  empties := fun _ _ => ⟨Nat.zero_le _, Nat.zero_le _⟩

/-! #### Parity of what is sent -/

/-- Words of good parity, one more of them. -/
theorem parityGood_append {ws : List Word} (h : ∀ v ∈ ws, parityGood v = true)
    (hw : parityGood w = true) : ∀ v ∈ ws ++ [w], parityGood v = true := fun v hv => by
  rcases List.mem_append.mp hv with hv | hv
  · exact h v hv
  · exact List.mem_singleton.mp hv ▸ hw

/-- The out word that begins next has good parity: it is the snapshot's, a reply word, or made here. -/
theorem PortState.OutParity.chooseOut (hp : p.OutParity) : p.chooseOut.OutParity := by
  obtain ⟨reply, sent, opens⟩ := hp
  unfold PortState.chooseOut
  split
  · exact ⟨reply, sent, opens⟩
  · rename_i o ho
    obtain ⟨statusB, -⟩ := opens o ho
    have chosen : ∀ (out : Word) (outReply : Bool), parityGood out = true →
        { p with openT := some { o with outWord := out, outReply := outReply } }.OutParity :=
      fun out outReply good => ⟨reply, sent, fun o' ho' => by
        cases ho'
        exact ⟨statusB, good⟩⟩
    split
    · exact chosen _ _ statusB
    · split
      · split
        · rename_i v _ hv
          exact chosen v true (reply v (by rw [hv]; exact List.mem_cons_self))
        · exact chosen _ _ (parityGood_mkWord _)
      · exact chosen _ _ (parityGood_mkWord _)

/-- Every word a port sends has good parity (R173). -/
theorem outParity_portLaw : PortLaw PortState.OutParity where
  lines := fun _ _ _ _ _ _ hp => hp
  closes := fun p ⟨reply, sent, _⟩ => ⟨reply, sent, fun _ ho => nomatch ho⟩
  opens := fun p a b ⟨reply, _, _⟩ ha hb => ⟨reply, fun _ hw => (nomatch hw), fun o ho => by
    cases ho
    exact ⟨hb, ha⟩⟩
  shiftOut := fun p o ⟨reply, sent, opens⟩ ho => by
    refine ⟨fun w hw => reply w ?_, parityGood_append sent (opens o ho).2, opens⟩
    change w ∈ (if o.outReply then p.reply.tail else p.reply) at hw
    split at hw
    · exact List.mem_of_mem_tail hw
    · exact hw
  records := fun p o o' ⟨reply, sent, opens⟩ ho statusB outWord _ => ⟨reply, sent, fun k hk => by
    cases hk
    rw [statusB, outWord]
    exact opens o ho⟩
  chooseOut := fun _ hp => hp.chooseOut
  enqueues := fun p o ⟨reply, sent, _⟩ _ _ => ⟨reply, sent, fun _ ho => nomatch ho⟩
  replies := fun p ws ⟨reply, sent, opens⟩ good _ => by
    refine ⟨fun w hw => ?_, sent, opens⟩
    rcases List.mem_append.mp hw with hw | hw
    · exact reply w hw
    · exact good w hw
  modes := fun _ _ _ _ hp => hp
  faults := fun m flags p hp _ => by
    rw [m.act_frame flags p]
    exact hp
  runs := fun _ _ _ _ hp => hp
  grants := fun _ _ _ _ hp _ _ => hp
  releases := fun _ hp => hp
  appends := fun p w ⟨reply, sent, opens⟩ good _ => ⟨parityGood_append reply good, sent, opens⟩
  resets := fun p _ _ sent _ ⟨_, good, _⟩ hsent => by
    refine ⟨fun _ hw => (nomatch hw), fun w hw => ?_, fun _ ho => nomatch ho⟩
    rcases hsent with rfl | rfl
    · exact good w hw
    · exact nomatch hw
  empties := fun p ⟨_, sent, _⟩ => ⟨fun _ hw => (nomatch hw), sent, fun _ ho => nomatch ho⟩

/-- Settles O59: both are laws of the ports. -/
theorem stepKeepsBuffersAndParity : Obligations.StepKeepsBuffersAndParity :=
  ⟨fun _ _ hs h => bounded_portLaw.step hs h, fun _ _ hs h => outParity_portLaw.step hs h⟩

end Sys2Proof.Machine
end

section
/-! ### Fault records at every step (R194, R196, R201) -/

namespace Sys2Proof.Machine

/-- Setting a flag leaves some flag set. -/
theorem Sticky.any_set (k : Sticky) (flag : Flag) : (k.set flag).any = true := by
  cases flag <;> simp [Sticky.set, Sticky.any]

theorem Sticky.any_setAll {flags : List Flag} (h : flags ≠ []) (k : Sticky) :
    (flags.foldl Sticky.set k).any = true := by
  induction flags generalizing k with
  | nil => exact absurd rfl h
  | cons flag flags ih =>
    cases flags with
    | nil => exact k.any_set flag
    | cons next flags => exact ih (List.cons_ne_nil _ _) _

/-- A fault record and its queue stay in order under every mode (R195). -/
theorem FaultMode.act_recordLegal (m : FaultMode) {flags : List Flag} {p : PortState}
    (hp : p.RecordLegal) (h : flags ≠ []) : (m.act flags p).RecordLegal := by
  obtain ⟨timer, flagged, emptied⟩ := hp
  have raised : (p.faults.setFlags flags).sticky.any = true := Sticky.any_setAll h _
  have paused : ∀ ms, { p with faults := (p.faults.setFlags flags).pause ms }.RecordLegal := fun ms => by
    unfold FaultRecord.pause
    split
    · rename_i halted
      exact ⟨iff_of_false (by simp [halted]) (by simp), fun _ => raised, fun _ => emptied halted⟩
    · exact ⟨iff_of_true rfl rfl, fun _ => raised, fun c => nomatch c⟩
  cases m
  case ignore => exact ⟨timer, flagged, emptied⟩
  case report => exact ⟨timer, fun _ => raised, emptied⟩
  case resumeFast => exact paused _
  case resumeSlow => exact paused _
  case latch =>
    exact ⟨iff_of_false (fun h => nomatch h) (fun h => nomatch h), fun _ => raised, fun _ => rfl⟩

theorem PortState.atReset_recordLegal : PortState.atReset.RecordLegal := by decide

/-- Fault records stay in order (R194, R196, R201). -/
theorem recordLegal_portLaw : PortLaw PortState.RecordLegal where
  lines := fun _ _ _ _ _ _ hp => hp
  closes := fun _ hp => hp
  opens := fun _ _ _ hp _ _ => hp
  shiftOut := fun _ _ hp _ => hp
  records := fun _ _ _ hp _ _ _ _ => hp
  chooseOut := fun p hp => by
    obtain ⟨openT, e, -⟩ := p.chooseOut_frame
    rw [e]
    exact hp
  enqueues := fun _ _ ⟨timer, flagged, _⟩ _ running =>
    ⟨timer, flagged, fun halted => absurd halted running⟩
  replies := fun _ _ hp _ _ => hp
  modes := fun _ _ _ _ hp => hp
  faults := fun m _ _ hp h => m.act_recordLegal hp h
  runs := fun _ _ _ _ _ =>
    ⟨iff_of_false (by simp) (by simp), fun h => absurd rfl h, fun h => nomatch h⟩
  grants := fun _ _ _ _ ⟨timer, flagged, emptied⟩ hq _ =>
    ⟨timer, flagged, fun halted => absurd (hq.symm.trans (emptied halted)) (List.cons_ne_nil _ _)⟩
  releases := fun _ hp => hp
  appends := fun _ _ hp _ _ => hp
  resets := fun _ _ _ _ _ _ _ => PortState.atReset_recordLegal
  empties := fun _ ⟨timer, flagged, _⟩ => ⟨timer, flagged, fun _ => rfl⟩

end Sys2Proof.Machine
end

section
/-! ### What the serial events and the engine leave of a port's lines -/

namespace Sys2Proof.Machine

variable {s t : State} {x : Port} {p : PortState} {o : OpenTransfer} {w : Word}

/-- A LINK fault changes the fault record, and the queue under LATCH. -/
theorem PortState.linkFault_frame (p : PortState) (flags : List Flag) :
    ∃ faults queue, p.linkFault flags = { p with faults := faults, queue := queue } :=
  ⟨_, _, FaultMode.act_frame _ flags p⟩

theorem PortState.takeIn_frame (p : PortState) (o : OpenTransfer) (w : Word) :
    ∃ openT faults queue, p.takeIn o w =
      { p with openT := openT, faults := faults, queue := queue } := by
  unfold PortState.takeIn
  split
  · exact ⟨_, _, _, rfl⟩
  · dsimp only
    split
    · split
      · obtain ⟨faults, queue, e⟩ := PortState.linkFault_frame
          { p with openT := some { o.read w with overrun := true, queued := [] } } [.overrun]
        exact ⟨_, faults, queue, e⟩
      · exact ⟨_, _, _, rfl⟩
    · exact ⟨_, _, _, rfl⟩

/-- A word sampled leaves the lines of its port, CLIP, the waiting flag and the reservation. -/
theorem PortState.sampled_frame (p : PortState) (w : Word) :
    ∃ openT faults queue reply sent, p.sampled w = { p with
      openT := openT, faults := faults, queue := queue, reply := reply, sent := sent } := by
  unfold PortState.sampled
  split
  · exact ⟨_, _, _, _, _, rfl⟩
  · rename_i o _
    obtain ⟨openT, faults, queue, taken⟩ := (p.shiftOut o).takeIn_frame o w
    obtain ⟨openT', chosen, -⟩ := ((p.shiftOut o).takeIn o w).chooseOut_frame
    rw [chosen, taken]
    exact ⟨_, _, _, _, _, rfl⟩

theorem PortState.takeService_frame (p : PortState) (locked : Bool) (code : Nat)
    (heldWords : List Word) : ∃ faults queue reply clip, p.takeService locked code heldWords =
      { p with faults := faults, queue := queue, reply := reply, clip := clip } := by
  have service : ∀ ws, ∃ faults queue reply clip, p.appendService ws =
      { p with faults := faults, queue := queue, reply := reply, clip := clip } := fun ws => by
    unfold PortState.appendService
    split
    · exact ⟨_, _, _, _, rfl⟩
    · obtain ⟨faults, queue, e⟩ := p.linkFault_frame [.overrun]
      exact ⟨faults, queue, _, _, e⟩
  unfold PortState.takeService
  split
  · exact service _
  · exact ⟨_, _, _, _, rfl⟩
  · split
    · unfold PortState.setMode
      repeat' split
      all_goals exact ⟨_, _, _, _, rfl⟩
    · exact ⟨_, _, _, _, rfl⟩
  · exact service _
  · exact ⟨_, _, _, _, rfl⟩

/-- The end of a transfer closes it, and leaves the lines and the reservation. -/
theorem PortState.endTransfer_frame (p : PortState) (locked : Bool) (o : OpenTransfer) :
    ∃ faults queue reply clip, p.endTransfer locked o = { p with
      openT := none, faults := faults, queue := queue, reply := reply, clip := clip } := by
  unfold PortState.endTransfer
  dsimp only
  split
  · exact ⟨_, _, _, _, rfl⟩
  · split
    · obtain ⟨faults, queue, e⟩ := p.discardOpen.linkFault_frame o.linkFlags
      exact ⟨faults, queue, _, _, e⟩
    · split
      · exact ⟨_, _, _, _, rfl⟩
      · split
        · split <;> exact ⟨_, _, _, _, rfl⟩
        · exact p.discardOpen.takeService_frame _ _ _

/-- The rising edge of a low line: the line rises, the transfer is closed, the reservation stays (R178). -/
theorem onTransferEnd_frame (x : Port) (k : Fin 16) (s : State) :
    onTransferEnd x k s = s ∨ ∃ sentBits faults queue reply clip, onTransferEnd x k s =
      s.setPort x { s.port x with
        selLow := false, openT := none, sentBits := sentBits, faults := faults, queue := queue
        reply := reply, clip := clip } := by
  unfold onTransferEnd
  split
  · exact .inl rfl
  · right
    rw [State.updPort_eq]
    split
    · rename_i closed
      exact ⟨(s.port x).sentBits, (s.port x).faults, (s.port x).queue, (s.port x).reply,
        (s.port x).clip, by rw [← closed]⟩
    · rename_i o _
      obtain ⟨faults, queue, reply, clip, e⟩ := PortState.endTransfer_frame
        { s.port x with selLow := false, sentBits := firstBits o.outWord k.val }
        (decide (s.clock = .locked)) { o with partialBits := k.val }
      exact ⟨_, faults, queue, reply, clip, congrArg (s.setPort x) e⟩

/-- Reply words change the buffer and the reservation (R89). -/
theorem PortState.appendReply_frame (p : PortState) (ws : List Word) :
    ∃ reply reserved, p.appendReply ws = { p with reply := reply, reserved := reserved } := by
  induction ws generalizing p with
  | nil => exact ⟨_, _, rfl⟩
  | cons w ws ih =>
    obtain ⟨reply, reserved, e⟩ := ih (p.appendReserved w)
    rw [PortState.appendReply, List.foldl_cons, ← PortState.appendReply, e]
    unfold PortState.appendReserved
    split <;> exact ⟨_, _, rfl⟩

/-- A step of the engine leaves the lines of its port and the open transfer. -/
theorem Micro.effect_port_frame (f : Flight) (m : Micro) (s : State) :
    ∃ reply reserved clip faults queue, (m.effect f s).ports = s.ports.set f.port { s.port f.port with
      reply := reply, reserved := reserved, clip := clip, faults := faults, queue := queue } := by
  rcases m.effect_ports_cases f s with e | ⟨ws, -, e⟩ | e | ⟨code, e⟩
  · exact ⟨_, _, _, _, _, e.trans (Ports.set_get s.ports f.port).symm⟩
  · obtain ⟨reply, reserved, h⟩ := (s.port f.port).appendReply_frame ws
    exact ⟨reply, reserved, _, _, _, e.trans (congrArg _ h)⟩
  · exact ⟨_, _, _, _, _, e⟩
  · exact ⟨_, _, _, _, _, e.trans (congrArg _ (PortState.refuse_frame _ code))⟩

/-- A step of the engine leaves the clock and standby. -/
theorem Micro.effect_clock (f : Flight) (m : Micro) (s : State) :
    (m.effect f s).standby = s.standby ∧ (m.effect f s).clock = s.clock := by
  cases m <;> simp only [Micro.effect]
  case put | store | arrow | markEvent => split <;> simp
  all_goals simp

end Sys2Proof.Machine
end

section
/-! ### Reservations at every step (R89) -/

namespace Sys2Proof.Machine

variable {s t : State} {x : Port} {p : PortState}

/-- A port changed with its reservation as it was. -/
theorem State.ReservationLaw.setPort (hs : s.ReservationLaw) (ht : t.ports = s.ports.set x p)
    (hp : p.reserved ≠ 0 → (s.port x).reserved ≠ 0)
    (hf : t.flight.map Flight.port = s.flight.map Flight.port) : t.ReservationLaw := fun y hy => by
  rw [hf]
  unfold State.port at hy
  rw [ht] at hy
  by_cases hyx : y = x
  · subst hyx
    rw [Ports.get_set_same] at hy
    exact hs y (hp hy)
  · rw [Ports.get_set_other _ _ hyx] at hy
    exact hs y hy

/-- The same change of every port that makes no reservation. -/
theorem State.ReservationLaw.map {g : PortState → PortState} (hs : s.ReservationLaw)
    (ht : t.ports = s.ports.map g) (hg : ∀ p, (g p).reserved ≠ 0 → p.reserved ≠ 0)
    (hf : t.flight.map Flight.port = s.flight.map Flight.port) : t.ReservationLaw := fun y hy => by
  rw [hf]
  unfold State.port at hy
  rw [ht, Ports.get_map] at hy
  exact hs y (hg _ hy)

theorem State.ReservationLaw.of_none (h : ∀ y, (t.port y).reserved = 0) : t.ReservationLaw :=
  fun y hy => absurd (h y) hy

/-- With the engine empty nothing is reserved. -/
theorem State.ReservationLaw.unreserved (hs : s.ReservationLaw) (hf : s.flight = none) (y : Port) :
    (s.port y).reserved = 0 := by
  by_contra hy
  have := hs y hy
  simp [hf] at this

/-- The end of the command in flight leaves nothing reserved. -/
theorem State.ReservationLaw.complete (hs : s.ReservationLaw) :
    (s.flight.map Flight.port = some x) → (s.complete x).ReservationLaw := fun hf =>
  .of_none fun y => by
    by_cases hy : y = x
    · subst hy
      exact congrArg PortState.reserved (State.port_updPort_same _ y _)
    · rw [State.complete, State.port_updPort_other _ _ hy]
      by_contra hne
      exact hy (Option.some.inj ((hs y hne).symm.trans hf))

theorem State.ReservationLaw.grantTo (hs : s.ReservationLaw) (hpick : s.arbiterPick = some x) :
    (grantTo x s).ReservationLaw := by
  have unreserved := hs.unreserved (State.arbiterPick_some hpick).1
  rcases grantTo_cases x s with ⟨-, e⟩ | ⟨w, rest, -, ⟨-, e⟩ | ⟨c, -, e⟩⟩
  · rw [e]
    exact hs
  · rw [e]
    exact State.ReservationLaw.setPort hs rfl id rfl
  · have granted : (s.granted x w rest c).ReservationLaw := fun y hy => by
      by_cases hyx : y = x
      · exact congrArg some hyx.symm
      · rw [State.granted, State.port_updPort_other _ _ hyx] at hy
        exact absurd (unreserved y) hy
    obtain ⟨⟨clip, waiting, ports⟩, -, -, -, -, -, port⟩ :=
      startCommand_frame x c (s.granted x w rest c)
    have started := granted.setPort ports id port
    rw [e, beginCommand]
    rcases State.completeIfDone_cases (startCommand x c (s.granted x w rest c)) x with h | h <;> rw [h]
    · exact started
    · exact started.complete port

theorem State.ReservationLaw.effect (hs : s.ReservationLaw) {f : Flight} (hf : s.flight = some f)
    (m : Micro) {g : Flight} (hg : g.port = f.port) :
    ({ m.effect f s with flight := some g } : State).ReservationLaw := fun y hy => by
  obtain ⟨reply, reserved, clip, faults, queue, ports⟩ := m.effect_port_frame f s
  show some g.port = some y
  rw [hg]
  by_cases hyx : y = f.port
  · rw [hyx]
  · change ((m.effect f s).ports.get y).reserved ≠ 0 at hy
    rw [ports, Ports.get_set_other _ _ hyx] at hy
    have := hs y hy
    rwa [hf] at this

theorem State.ReservationLaw.engineStep (hs : s.ReservationLaw) (h : engineStep s = .next t) :
    t.ReservationLaw := by
  rcases engineStep_next h with ⟨-, rfl⟩ | ⟨f, hf, -, rfl⟩ | ⟨f, m, rest, hf, -, -, rfl⟩
  · exact hs
  · exact hs.complete (by rw [hf]; rfl)
  · simp only [State.stepDone]
    split
    · exact (hs.effect hf m rfl).complete (x := f.port) rfl
    · exact hs.effect hf m (Micro.progress_port f m s)

/-- The frame start leaves reservations and the command in flight. -/
theorem State.ReservationLaw.onFrameStart (hs : s.ReservationLaw) (o : LatchOrder) :
    (onFrameStart o s).ReservationLaw := by
  unfold Machine.onFrameStart
  split
  · exact hs.map (s.frameStart_ports o) (fun _ => id) (by rw [State.frameStart_eq])
  · exact hs

/-- A port reset releases the port's reservation with its command (R89, R192). -/
theorem State.ReservationLaw.onPortReset (hs : s.ReservationLaw) (x : Port) :
    (onPortReset x s).ReservationLaw := by
  cases held : (s.port x).held
  · rw [onPortReset_eq held, State.lineReset_eq]
    intro y hy
    change ((s.ports.set x (PortState.lineReset (s.port x))).get y).reserved ≠ 0 at hy
    show (s.abortFlight x).flight.map Flight.port = some y
    by_cases hyx : y = x
    · rw [hyx, Ports.get_set_same] at hy
      exact absurd rfl hy
    · rw [Ports.get_set_other _ _ hyx] at hy
      have reserved := hs y hy
      rwa [State.abortFlight_other fun hx => hyx (Option.some.inj (reserved.symm.trans hx))]
  · rw [Machine.onPortReset, if_pos held]
    exact hs

/-- An event keeps the law of reservations. -/
theorem State.ReservationLaw.exec {i : Instr} (hs : s.ReservationLaw) (h : exec i s = .next t) :
    t.ReservationLaw := by
  refine exec_keeps (P := State.ReservationLaw) (fun x s hs => ?_) (fun x w s hs => ?_)
    (fun x k s hs => ?_) (fun s x hs hpick => hs.grantTo hpick) (fun s t hs h => hs.engineStep h)
    (fun osel tsel s hs => .of_none fun y => ?_) (fun s hs => .of_none fun y => ?_) (fun o s hs => ?_)
    (fun o s hs => ?_) (fun s hs => ?_) (fun o s hs => hs.onFrameStart o) (fun x s hs => ?_)
    (fun x s hs => hs.onPortReset x) (fun x s hs => hs.setPort rfl id rfl) (fun s hs => ?_)
    (fun s hs => ?_) (fun s hs => ?_) i hs h
  · simp only [onTransferStart]
    split
    · exact hs
    · split <;> exact hs.setPort rfl id rfl
  · rw [onWordSampled_eq]
    split
    · obtain ⟨openT, faults, queue, reply, sent, e⟩ := (s.port x).sampled_frame w
      rw [e]
      exact hs.setPort rfl id rfl
    · exact hs
  · rcases onTransferEnd_frame x k s with e | ⟨sentBits, faults, queue, reply, clip, e⟩ <;> rw [e]
    · exact hs
    · exact hs.setPort rfl id rfl
  · exact congrArg PortState.reserved (Ports.get_map s.ports _ y)
  · exact congrArg PortState.reserved (Ports.get_map s.ports _ y)
  · unfold onClearComplete
    split
    · exact State.ReservationLaw.onFrameStart (s := { s with phase := .running, plane := [] }) hs o
    · exact hs
  · unfold onLockAchieved
    split
    · exact State.ReservationLaw.onFrameStart (s := { s with clock := .locked }) hs o
    · exact hs
  · unfold onLossOfLock
    split
    · exact hs.map rfl (fun _ => id) rfl
    · exact hs
  · refine hs.setPort rfl ?_ rfl
    beta_reduce
    split <;> exact id
  · unfold onWakePulse
    split
    · exact hs.map rfl (fun _ => id) rfl
    · exact hs
  · unfold onStandbyEntry
    split
    · exact hs.map rfl (fun _ => id) rfl
    · exact hs
  · unfold onStandbyExit
    split <;> exact hs

end Sys2Proof.Machine
end

section
/-! ### Readiness at every step (R149, R175, R189) -/

namespace Sys2Proof.Machine

variable {s t : State} {x : Port}

/-- The lines, the clock's stop and the open transfers are the same in both states. -/
structure State.SameLines (s t : State) : Prop where
  phase : t.phase = s.phase
  standby : t.standby = s.standby
  clock : t.clock = .stopped ↔ s.clock = .stopped
  port : ∀ x, (t.port x).held = (s.port x).held ∧ (t.port x).selLow = (s.port x).selLow ∧
    (t.port x).openT = (s.port x).openT

theorem State.ReadyLaw.of_sameLines (hs : s.ReadyLaw) (h : s.SameLines t) : t.ReadyLaw := by
  obtain ⟨unready, high, clock, awake⟩ := hs
  refine ⟨fun x hx => ?_, fun x hx => ?_, ?_, ?_⟩
  · obtain ⟨held, -, openT⟩ := h.port x
    rw [openT]
    refine unready x ?_
    rwa [State.ready, h.phase, h.standby, held] at hx
  · obtain ⟨-, selLow, openT⟩ := h.port x
    rw [openT]
    exact high x (selLow ▸ hx)
  · rw [h.clock, h.standby, h.phase]
    exact clock
  · rw [h.standby, h.phase]
    exact awake

theorem State.SameLines.refl (s : State) : s.SameLines s := ⟨rfl, rfl, Iff.rfl, fun _ => ⟨rfl, rfl, rfl⟩⟩

theorem State.SameLines.trans {u : State} (h : s.SameLines t) (h' : t.SameLines u) : s.SameLines u := by
  refine ⟨h'.phase.trans h.phase, h'.standby.trans h.standby, h'.clock.trans h.clock, fun x => ?_⟩
  obtain ⟨held, selLow, openT⟩ := h.port x
  obtain ⟨held', selLow', openT'⟩ := h'.port x
  exact ⟨held'.trans held, selLow'.trans selLow, openT'.trans openT⟩

/-- A port replaced by one with the same lines and the same open transfer. -/
theorem State.SameLines.of_set {p : PortState} (phase : t.phase = s.phase)
    (standby : t.standby = s.standby) (clock : t.clock = s.clock) (ports : t.ports = s.ports.set x p)
    (held : p.held = (s.port x).held) (selLow : p.selLow = (s.port x).selLow)
    (openT : p.openT = (s.port x).openT) : s.SameLines t := by
  refine ⟨phase, standby, by rw [clock], fun y => ?_⟩
  unfold State.port
  rw [ports]
  by_cases hy : y = x
  · subst hy
    rw [Ports.get_set_same]
    exact ⟨held, selLow, openT⟩
  · rw [Ports.get_set_other _ _ hy]
    exact ⟨rfl, rfl, rfl⟩

/-- The same change of every port that leaves its lines and its open transfer. -/
theorem State.SameLines.of_map {g : PortState → PortState} (phase : t.phase = s.phase)
    (standby : t.standby = s.standby) (clock : t.clock = .stopped ↔ s.clock = .stopped)
    (ports : t.ports = s.ports.map g)
    (hg : ∀ p, (g p).held = p.held ∧ (g p).selLow = p.selLow ∧ (g p).openT = p.openT) :
    s.SameLines t := by
  refine ⟨phase, standby, clock, fun y => ?_⟩
  unfold State.port
  rw [ports, Ports.get_map]
  exact hg _

/-- A port replaced by one whose open transfer fits its lines. -/
theorem State.ReadyLaw.of_set (hs : s.ReadyLaw) {p : PortState} (phase : t.phase = s.phase)
    (standby : t.standby = s.standby) (clock : t.clock = s.clock) (ports : t.ports = s.ports.set x p)
    (unready : t.ready x = false → p.openT = none) (high : p.selLow = false → p.openT = none) :
    t.ReadyLaw := by
  obtain ⟨unready', high', clock', awake⟩ := hs
  have same : t.port x = p := by
    unfold State.port
    rw [ports, Ports.get_set_same]
  have other : ∀ y, y ≠ x → t.port y = s.port y := fun y hy => by
    unfold State.port
    rw [ports, Ports.get_set_other _ _ hy]
  refine ⟨fun y hy => ?_, fun y hy => ?_, by rw [clock, standby, phase]; exact clock',
    by rw [standby, phase]; exact awake⟩
  · by_cases hyx : y = x
    · subst hyx
      rw [same]
      exact unready hy
    · rw [other y hyx]
      refine unready' y ?_
      rwa [State.ready, phase, standby, other y hyx] at hy
  · by_cases hyx : y = x
    · subst hyx
      rw [same] at hy ⊢
      exact high hy
    · rw [other y hyx] at hy ⊢
      exact high' y hy

/-- A port replaced by one held as it was, whose open transfer fits its lines. -/
theorem State.ReadyLaw.setPort (hs : s.ReadyLaw) {p : PortState} (held : p.held = (s.port x).held)
    (unready : s.ready x = false → p.openT = none) (high : p.selLow = false → p.openT = none) :
    (s.setPort x p).ReadyLaw :=
  hs.of_set rfl rfl rfl rfl (fun h => unready ((State.ready_setPort s x held).symm.trans h)) high

/-! #### The serial events -/

theorem State.ReadyLaw.transferStart (hs : s.ReadyLaw) (x : Port) : (onTransferStart x s).ReadyLaw := by
  obtain ⟨unready, -, -, -⟩ := id hs
  simp only [onTransferStart]
  split
  · exact hs
  · split
    · rename_i ready
      exact hs.setPort rfl (fun h => absurd (ready.symm.trans h) (by simp)) (fun h => nomatch h)
    · rename_i deaf
      exact hs.setPort rfl (unready x) (fun h => nomatch h)

theorem State.ReadyLaw.wordSampled (hs : s.ReadyLaw) (x : Port) (w : Word) :
    (onWordSampled x w s).ReadyLaw := by
  obtain ⟨unready, high, -, -⟩ := id hs
  have closed : (s.port x).openT = none → ((s.port x).sampled w).openT = none := fun h => by
    simp only [PortState.sampled, h]
  obtain ⟨openT, faults, queue, reply, sent, frame⟩ := (s.port x).sampled_frame w
  rw [onWordSampled_eq]
  split
  · refine hs.setPort (by rw [frame]) (fun h => closed (unready x h)) fun h => closed (high x ?_)
    rwa [frame] at h
  · exact hs

theorem State.ReadyLaw.transferEnd (hs : s.ReadyLaw) (x : Port) (k : Fin 16) :
    (onTransferEnd x k s).ReadyLaw := by
  rcases onTransferEnd_frame x k s with e | ⟨sentBits, faults, queue, reply, clip, e⟩ <;> rw [e]
  · exact hs
  · exact hs.setPort rfl (fun _ => rfl) (fun _ => rfl)

/-! #### The engine and the arbiter -/

theorem grantTo_sameLines (hpick : s.arbiterPick = some x) : s.SameLines (grantTo x s) := by
  obtain ⟨-, -, -, w, rest, hq, -⟩ := State.eligible_facts (State.arbiterPick_some hpick).2
  obtain ⟨clip, waiting, reserved, ports⟩ := grantTo_ports hq
  obtain ⟨standby, clock, -, -⟩ := grantTo_lines x s
  exact .of_set (grantTo_phase x s) standby clock ports rfl rfl rfl

theorem engineStep_sameLines (h : engineStep s = .next t) : s.SameLines t := by
  have completes : ∀ (u : State) (x : Port), u.SameLines (u.complete x) := fun u x =>
    .of_set rfl rfl rfl rfl rfl rfl rfl
  have effect : ∀ (f : Flight) (m : Micro) (g : Option Flight),
      s.SameLines { Micro.effect f m s with flight := g } := fun f m g => by
    obtain ⟨reply, reserved, clip, faults, queue, ports⟩ := m.effect_port_frame f s
    obtain ⟨standby, clock⟩ := m.effect_clock f s
    exact .of_set (m.effect_phase f s) standby clock ports rfl rfl rfl
  rcases engineStep_next h with ⟨-, rfl⟩ | ⟨f, -, -, rfl⟩ | ⟨f, m, rest, -, -, -, rfl⟩
  · exact .refl _
  · exact completes s f.port
  · simp only [State.stepDone]
    split
    · exact (effect f m none).trans (completes _ f.port)
    · exact effect f m _

/-! #### The frame start, the resets and standby -/

theorem onFrameStart_sameLines (o : LatchOrder) (s : State) : s.SameLines (onFrameStart o s) := by
  unfold onFrameStart
  split
  · rename_i run
    have locked : s.clock = .locked := by
      simp only [State.framesRun, Bool.and_eq_true, decide_eq_true_eq] at run
      exact run.1
    refine .of_map (by rw [State.frameStart_eq]) (by rw [State.frameStart_eq]) ?_
      (s.frameStart_ports o) fun _ => ⟨rfl, rfl, rfl⟩
    rw [State.frameStart_eq, locked]
    split <;> simp
  · exact .refl s

theorem State.ReadyLaw.portReset (hs : s.ReadyLaw) (x : Port) : (onPortReset x s).ReadyLaw := by
  cases held : (s.port x).held
  · rw [onPortReset_eq held, State.lineReset_eq]
    exact hs.of_set rfl rfl rfl rfl (fun _ => rfl) (fun _ => rfl)
  · rw [onPortReset, if_pos held]
    exact hs

/-- A port let go may become ready, and so may have a transfer (R191). -/
theorem State.ReadyLaw.portResetRelease (hs : s.ReadyLaw) (x : Port) :
    (onPortResetRelease x s).ReadyLaw := by
  obtain ⟨unready, high, -, -⟩ := id hs
  refine hs.of_set rfl rfl rfl rfl (fun h => unready x ?_) (high x)
  simp only [State.ready, onPortResetRelease, State.updPort_eq, State.setPort_phase,
    State.setPort_standby, State.port_setPort_same] at h ⊢
  simp_all

/-- Where every open transfer is discarded, the clock alone is left to look at. -/
theorem State.ReadyLaw.of_closed (closed : ∀ x, (t.port x).openT = none)
    (clock : t.clock = .stopped ↔ t.standby = true ∨ t.phase = .inReset)
    (awake : t.standby = true → t.phase = .running) : t.ReadyLaw :=
  ⟨fun x _ => closed x, fun x _ => closed x, clock, awake⟩

/-- An event keeps the law of readiness. -/
theorem State.ReadyLaw.exec {i : Instr} (hs : s.ReadyLaw) (h : exec i s = .next t) : t.ReadyLaw := by
  refine exec_keeps (P := State.ReadyLaw) (fun x s hs => hs.transferStart x)
    (fun x w s hs => hs.wordSampled x w) (fun x k s hs => hs.transferEnd x k)
    (fun s x hs hpick => hs.of_sameLines (grantTo_sameLines hpick))
    (fun s t hs h => hs.of_sameLines (engineStep_sameLines h))
    (fun osel tsel s hs => .of_closed (fun x => ?_) (by simp [onPowerOnReset, State.reset])
      (by simp [onPowerOnReset, State.reset]))
    (fun s hs => .of_closed (fun x => ?_) (by simp [onResetAssertion]) (by simp [onResetAssertion]))
    (fun o s hs => ?_) (fun o s hs => ?_) (fun s hs => ?_)
    (fun o s hs => hs.of_sameLines (onFrameStart_sameLines o s))
    (fun x s hs => hs.of_sameLines (.of_set rfl rfl rfl rfl ?_ ?_ ?_)) (fun x s hs => hs.portReset x)
    (fun x s hs => hs.portResetRelease x) (fun s hs => ?_) (fun s hs => ?_) (fun s hs => ?_) i hs h
  · exact congrArg PortState.openT (Ports.get_map s.ports _ x)
  · exact congrArg PortState.openT (Ports.get_map s.ports _ x)
  · obtain ⟨unready, -, clock, awake⟩ := id hs
    unfold onClearComplete
    split
    · rename_i clearing
      have cleared : ({ s with phase := .running, plane := [] } : State).ReadyLaw := by
        refine .of_closed (fun x => unready x (State.ready_of_phase (by simp [clearing]) x)) ?_ fun _ => rfl
        rw [clearing] at clock
        simpa using clock
      exact cleared.of_sameLines (onFrameStart_sameLines o _)
    · exact hs
  · unfold onLockAchieved
    split
    · rename_i locking
      have locked : s.SameLines { s with clock := .locked } :=
        ⟨rfl, rfl, by simp [locking], fun _ => ⟨rfl, rfl, rfl⟩⟩
      exact (hs.of_sameLines locked).of_sameLines (onFrameStart_sameLines o _)
    · exact hs
  · unfold onLossOfLock
    split
    · rename_i locked
      exact hs.of_sameLines (.of_map rfl rfl (by simp [locked]) rfl fun _ => ⟨rfl, rfl, rfl⟩)
    · exact hs
  iterate 3
    beta_reduce
    split <;> rfl
  · unfold onWakePulse
    split
    · exact hs.of_sameLines (.of_map rfl rfl Iff.rfl rfl fun _ => ⟨rfl, rfl, rfl⟩)
    · exact hs
  · unfold onStandbyEntry
    split
    · rename_i timed
      refine .of_closed (fun x => congrArg PortState.openT (Ports.get_map s.ports _ x)) (by simp) fun _ => ?_
      exact (State.wakeTimed_iff.mp timed).1
    · exact hs
  · obtain ⟨unready, -, -, awake⟩ := id hs
    unfold onStandbyExit
    split
    · rename_i standby
      exact .of_closed (fun x => unready x (State.ready_of_standby standby x)) (by simp [awake standby])
        (fun h => nomatch h)
    · exact hs

end Sys2Proof.Machine
end

section
/-! ### The arbiter's work is done at every step (R91) -/

namespace Sys2Proof.Machine

variable {s t : State} {x : Port}

/-- The same change of every port that eligibility does not see. -/
theorem State.ServedLaw.map {g : PortState → PortState} (hs : s.ServedLaw) (ports : t.ports = s.ports.map g)
    (phase : t.phase = s.phase) (flight : t.flight = s.flight) (ptr : t.grantPtr = s.grantPtr)
    (hg : ∀ p, (g p).queue = p.queue ∧ (g p).faults.condition = p.faults.condition ∧
      (g p).waiting = p.waiting ∧ (g p).room = p.room) : t.ServedLaw := by
  refine (State.arbiterPick_congr flight ptr fun x => ?_).trans hs
  have port : t.port x = g (s.port x) := by
    unfold State.port
    rw [ports, Ports.get_map]
  obtain ⟨queue, condition, waiting, room⟩ := hg (s.port x)
  exact State.eligible_congr phase (by rw [port, queue]) (by rw [port, condition])
    (by rw [port, waiting]) (by rw [port, room])

/-- An event that ends with the arbiter's searches leaves nobody to grant. -/
theorem State.servedLaw_of_arbitrate {u : State} (h : Host.Outcome.next u.arbitrate =
    (Host.Outcome.next t : Host.Outcome State Fault Refusal)) : t.ServedLaw :=
  Host.Outcome.next.inj h ▸ State.arbitrate_served u

theorem State.servedLaw_of_thenArbitrate {o : Host.Outcome State Fault Refusal}
    (h : thenArbitrate o = .next t) : t.ServedLaw := by
  obtain ⟨u, -, rfl⟩ := thenArbitrate_next h
  exact State.arbitrate_served u

theorem State.ServedLaw.sendWords (hs : s.ServedLaw) (x : Port) (ws : List Word) :
    (sendWords x ws s).ServedLaw := by
  unfold Machine.sendWords
  split
  · exact hs
  · exact State.arbitrate_served _

/-- An event leaves no eligible port waiting (R91). -/
theorem State.ServedLaw.exec {i : Instr} (hs : s.ServedLaw) (h : exec i s = .next t) : t.ServedLaw := by
  have now : ∀ u : State, u.ServedLaw →
      (.next u : Host.Outcome State Fault Refusal) = .next t → t.ServedLaw :=
    fun u hu e => Host.Outcome.next.inj e ▸ hu
  cases hc : i.command with
  | some xc =>
    obtain ⟨x, c⟩ := xc
    rw [exec_command hc, sendCommand] at h
    split at h
    · exact State.servedLaw_of_thenArbitrate h
    · exact now _ (hs.sendWords x _) h
  | none =>
    cases i
    all_goals try (simp only [Instr.command, reduceCtorEq] at hc; done)
    case powerOnReset => exact now _ (State.arbiterPick_of_phase Phase.noConfusion) h
    case resetAssertion => exact now _ (State.arbiterPick_of_phase Phase.noConfusion) h
    case lossOfLock =>
      refine now _ ?_ h
      unfold onLossOfLock
      split
      · exact hs.map rfl rfl rfl rfl fun _ => ⟨rfl, rfl, rfl, rfl⟩
      · exact hs
    case transferStart x =>
      refine now _ ?_ h
      simp only [onTransferStart]
      split
      · exact hs
      · split <;> refine (State.arbiterPick_setPort s x _ ?_ ?_ ?_ ?_).trans hs <;> rfl
    case portResetRelease x =>
      refine now _ ?_ h
      refine (State.arbiterPick_setPort s x _ ?_ ?_ ?_ ?_).trans hs <;> rfl
    case standbyEntry =>
      refine now _ ?_ h
      unfold onStandbyEntry
      split
      · exact hs.map rfl rfl rfl rfl fun _ => ⟨rfl, rfl, rfl, rfl⟩
      · exact hs
    case standbyExit =>
      refine now _ ?_ h
      unfold onStandbyExit
      split <;> exact hs
    case commandCompletion =>
      simp only [Machine.exec, execCompletion] at h
      split at h
      · exact State.servedLaw_of_thenArbitrate h
      · exact now _ hs h
    case cellAccess => exact State.servedLaw_of_thenArbitrate h
    case fetch x n => exact now _ (hs.sendWords x _) h
    case faults x => exact now _ (hs.sendWords x _) h
    case clear x => exact now _ (hs.sendWords x _) h
    case mode x cls m => exact now _ (hs.sendWords x _) h
    case ident x => exact now _ (hs.sendWords x _) h
    all_goals exact State.servedLaw_of_arbitrate h

/-- A law of the part that every event keeps, and that the queue of events has no part in, is kept by every
step. -/
theorem step_keeps {P : State → Prop} (hexec : ∀ i s t, P s → exec i s = .next t → P t)
    (hpending : ∀ s rest, P s → P { s with pending := rest }) (hs : P s) (h : step s = .next t) :
    P t := by
  unfold step at h
  split at h
  · exact Host.Outcome.next.inj h ▸ hs
  · exact hexec _ _ t (hpending s _ hs) h

/-- Settles O58: each law is kept by every event. -/
theorem stepKeepsTheRecords : Obligations.StepKeepsTheRecords :=
  ⟨fun _ _ hs h => recordLegal_portLaw.step hs h,
    fun _ _ hs h => step_keeps (P := State.ReservationLaw) (fun _ _ _ hs h => hs.exec h)
      (fun _ _ hs => hs) hs h,
    fun _ _ hs h => step_keeps (P := State.ReadyLaw) (fun _ _ _ hs h => hs.exec h)
      (fun _ _ hs => hs) hs h,
    fun _ _ hs h => step_keeps (P := State.ServedLaw) (fun _ _ _ hs h => hs.exec h)
      (fun _ _ hs => hs) hs h⟩

end Sys2Proof.Machine
end

section
/-! ### The laws after reset (R2, R14, R19, R22, R32, R72, R120, R136, R140, R189, R194) -/

namespace Sys2Proof.Machine

/-- The state after reset is what a power-on reset with the straps at 0 makes of it. -/
theorem onPowerOnReset_reset : onPowerOnReset 0 0 State.reset = State.reset := by
  have panes : (Vector.ofFn fun p : Fin 16 => Pane.atReset (ownerFor 0 p.val)) =
      Vector.replicate 16 (Pane.atReset none) := by
    ext i hi
    simp [ownerFor]
  simp only [onPowerOnReset, panes]
  rfl

theorem reset_port (x : Port) : State.reset.port x = PortState.atReset := by
  cases x <;> rfl

/-- Settles O6: the laws that power-on reset establishes hold at reset, and the others are about empty
stores and reset records. -/
theorem resetKeepsEveryLaw : Obligations.ResetKeepsEveryLaw := by
  have inside := onPowerOnReset_reset ▸ onPowerOnReset_insideLaw 0 0 State.reset
  have idle : ∀ {f : Flight}, State.reset.flight ≠ some f := fun h => nomatch h
  obtain ⟨geometry, flight⟩ := inside
  refine ⟨⟨rfl, fun e he => nomatch he⟩, geometry, flight,
    onPowerOnReset_reset ▸ onPowerOnReset_regionLaw 0 0 State.reset,
    onPowerOnReset_reset ▸ onPowerOnReset_stackLaw 0 0 State.reset,
    onPowerOnReset_reset ▸ onPowerOnReset_markLaw 0 0 State.reset,
    fun f hf => absurd hf idle, ⟨fun i => ?_, fun i j _ hi => ?_⟩,
    ⟨iff_of_true rfl rfl, fun x hx => nomatch hx⟩, by decide, fun x => ?_, fun x => ?_,
    ⟨fun x _ => ?_, fun x _ => ?_, by decide, by decide⟩,
    fun x hx => ?_, fun x => ?_, State.arbiterPick_of_phase Phase.noConfusion⟩
  · simp [State.reset]
  · simp [State.reset] at hi
  all_goals rw [reset_port] at *
  · exact PortState.atReset_recordLegal
  · decide
  · rfl
  · rfl
  · exact absurd rfl hx
  · exact ⟨fun _ hw => (nomatch hw), fun _ hw => (nomatch hw), fun _ ho => nomatch ho⟩

end Sys2Proof.Machine
end

section
/-! ### Bitmaps and the words that carry them (R115, R210) -/

namespace Sys2Proof.Machine

theorem glyphRow_toNat (left right : Nat) :
    (glyphRow left right).toNat = left % 128 * 2 + right % 2 := by
  rw [glyphRow, BitVec.toNat_ofNat]
  omega

/-- The seven left pixels of a row are the low seven bits of the part that carries them (log 16). -/
theorem pixelOn_glyphRow_left (left right : Nat) {k : Nat} (hk : k < 7) :
    pixelOn (glyphRow left right) k = left.testBit (6 - k) := by
  have place : 7 - k = 6 - k + 1 := by omega
  have upper : (left % 128 * 2 + right % 2) / 2 = left % 2 ^ 7 := by omega
  rw [pixelOn, glyphRow_toNat, place, Nat.testBit_succ, upper, Nat.testBit_mod_two_pow,
    decide_eq_true (by omega), Bool.true_and]

/-- The eighth pixel is the lowest bit of the word (R210). -/
theorem pixelOn_glyphRow_last (left right : Nat) :
    pixelOn (glyphRow left right) 7 = right.testBit 0 := by
  rw [pixelOn, glyphRow_toNat, Nat.sub_self, Nat.testBit_zero, Nat.testBit_zero, decide_eq_decide]
  omega

theorem Bitmap.row_bitmapOf_even (rows : RowPairs) (i : Fin 8) :
    (bitmapOf rows).row (2 * i.val) = glyphRow (rows[i].toNat / 256) rows[i].toNat := by
  have inside : 2 * i.val < 16 := by omega
  have pair : 2 * i.val / 2 = i.val := by omega
  simp [Bitmap.row, bitmapOf, pairRows, inside, pair]

theorem Bitmap.row_bitmapOf_odd (rows : RowPairs) (i : Fin 8) :
    (bitmapOf rows).row (2 * i.val + 1) = glyphRow (rows[i].toNat / 2) rows[i].toNat := by
  have inside : 2 * i.val + 1 < 16 := by omega
  have pair : (2 * i.val + 1) / 2 = i.val := by omega
  have second : (2 * i.val + 1) % 2 = 1 := by omega
  simp [Bitmap.row, bitmapOf, pairRows, inside, pair, second]

/-- The two rows of a row-pair word are carried back by that word (R210). -/
theorem pairContents_pairRows (w : BitVec 15) :
    pairContents (glyphRow (w.toNat / 256) w.toNat) (glyphRow (w.toNat / 2) w.toNat) = w.toNat := by
  have hw := w.isLt
  simp only [pairContents, glyphRow_toNat]
  split <;> omega

/-- A loaded bitmap is read back as the words that loaded it (R115, R126). -/
theorem readBackWords_bitmapOf (rows : RowPairs) :
    readBackWords (bitmapOf rows).row = rows.toList.map fun r => mkWord r.toNat := by
  refine List.ext_getElem (by simp [readBackWords]) fun i hi _ => ?_
  have hlt : i < 8 := by simpa [readBackWords] using hi
  have even := Bitmap.row_bitmapOf_even rows ⟨i, hlt⟩
  have odd := Bitmap.row_bitmapOf_odd rows ⟨i, hlt⟩
  simp only [readBackWords, List.getElem_map, List.getElem_range, Vector.getElem_toList]
  rw [even, odd, pairContents_pairRows]
  rfl

/-- Settles O44: each row of a loaded bitmap is named by its word, and its pixels by that word's bits. -/
theorem bitmapsCrossThePort : Obligations.BitmapsCrossThePort := by
  refine fun rows => ⟨fun i k hk => ?_, fun i => ?_, readBackWords_bitmapOf rows⟩
  · rw [Bitmap.row_bitmapOf_even, Bitmap.row_bitmapOf_odd, pixelOn_glyphRow_left _ _ hk,
      pixelOn_glyphRow_left _ _ hk]
    have even : 6 - k + 8 = 14 - k := by omega
    have odd : 6 - k + 1 = 7 - k := by omega
    exact ⟨(Nat.testBit_div_two_pow rows[i].toNat (6 - k)).trans (congrArg _ even),
      (Nat.testBit_div_two_pow rows[i].toNat (6 - k)).trans (congrArg _ odd)⟩
  · rw [Bitmap.row_bitmapOf_even, Bitmap.row_bitmapOf_odd, pixelOn_glyphRow_last,
      pixelOn_glyphRow_last]
    exact ⟨rfl, rfl⟩

end Sys2Proof.Machine
end

section
/-! ### GLYPH, PATCH, PATCH_ROWS, PATCH_CODE and UNPATCH (R119-R123) -/

namespace Sys2Proof.Machine

variable {s : State} {x : Port} {slot : Fin 16} {code : Code} {rows : RowPairs}

/-! #### The checks -/

theorem State.glyph_passes (h : s.verdict x (.glyph code rows) = none) : 384 ≤ code.val := by
  simpa [State.checks, Command.ownerPane] using State.checks_passed h

theorem State.patch_passes (h : s.verdict x (.patch slot code rows) = none) :
    slot.val < 8 ∧ code.val ≤ 383 := by
  have checks : slot.val ≤ 7 ∧ code.val ≤ 383 := by
    simpa [State.checks, Command.ownerPane] using State.checks_passed h
  omega

theorem State.patchCode_passes (h : s.verdict x (.patchCode slot code) = none) :
    slot.val < 8 ∧ code.val ≤ 383 :=
  State.patch_passes (s := s) (x := x) (rows := Vector.replicate 8 0) h

theorem State.unpatch_passes (h : s.verdict x (.unpatch slot) = none) : slot.val < 8 := by
  have checks : slot.val ≤ 7 := by
    simpa [State.checks, Command.ownerPane] using State.checks_passed h
  omega

theorem State.patchRows_passes (h : s.verdict x (.patchRows slot rows) = none) : slot.val < 8 :=
  State.unpatch_passes (s := s) (x := x) h

/-! #### The stores -/

/-- The RAM glyph that GLYPH replaces is the one of its code (R119). -/
theorem getElem_ramGlyphs_set (glyphs : Vector Bitmap 128) (b : Bitmap) (h : 384 ≤ code.val)
    (i : Fin 128) :
    (glyphs.setIfInBounds (code.val - 384) b)[i] =
      if i.val + 384 = code.val then b else glyphs[i] := by
  have place : code.val - 384 = i.val ↔ i.val + 384 = code.val := by omega
  simp only [Fin.getElem_fin, Vector.getElem_setIfInBounds, place]

/-- One slot changed, the others as they are (R121, R123). -/
theorem getElem_slots_set (slots : Vector Slot 8) (g : Slot → Slot) {k : Nat} (hk : k < 8)
    (i : Fin 8) :
    (slots.set k (g slots[k]) hk)[i] = if i.val = k then g slots[i] else slots[i] := by
  simp only [Fin.getElem_fin, Vector.getElem_set]
  split
  · subst k
    rw [if_pos rfl]
  · rename_i other
    rw [if_neg (Ne.symm other)]

/-- One slot changed, and every rival for a code disabled (R120, R122). -/
theorem getElem_disableRivals_set (slots : Vector Slot 8) (g : Slot → Slot) {k : Nat} (hk : k < 8)
    (code : Code) (i : Fin 8) :
    ((disableRivals slots k code).set k (g slots[k]) hk)[i] =
      if i.val = k then g slots[i]
      else if slots[i].code = code then { slots[i] with enabled := false }
      else slots[i] := by
  simp only [Fin.getElem_fin, Vector.getElem_set]
  split
  · subst k
    rw [if_pos rfl]
  · rename_i other
    simp [disableRivals, Ne.symm other]

/-! #### What the commands that are taken do -/

theorem engineGlyph_taken (h : 384 ≤ code.val) (s : State) :
    engineGlyph code rows s =
      { s with ramGlyphs := s.ramGlyphs.setIfInBounds (code.val - 384) (bitmapOf rows) } :=
  if_neg (Nat.not_lt.mpr h)

theorem enginePatch_taken (hslot : slot.val < 8) (hcode : code.val ≤ 383) (s : State) :
    enginePatch slot code rows s = { s with
      slots := (disableRivals s.slots slot.val code).set slot.val ⟨code, true, bitmapOf rows⟩ hslot } := by
  rw [enginePatch, dif_pos hslot, if_neg (Nat.not_lt.mpr hcode)]

theorem enginePatchRows_taken (hslot : slot.val < 8) (s : State) :
    enginePatchRows slot rows s = { s with
      slots := s.slots.set slot.val { s.slots[slot.val] with bitmap := bitmapOf rows } hslot } :=
  dif_pos hslot

theorem enginePatchCode_taken (hslot : slot.val < 8) (hcode : code.val ≤ 383) (s : State) :
    enginePatchCode slot code s = { s with
      slots := (disableRivals s.slots slot.val code).set slot.val
        { s.slots[slot.val] with code := code, enabled := true } hslot } := by
  rw [enginePatchCode, dif_pos hslot, if_neg (Nat.not_lt.mpr hcode)]

theorem engineUnpatch_taken (hslot : slot.val < 8) (s : State) :
    engineUnpatch slot s = { s with
      slots := s.slots.set slot.val { s.slots[slot.val] with enabled := false } hslot } :=
  dif_pos hslot

/-! #### The rows -/

/-- A command whose one event writes the RAM glyphs, on a port served at once. -/
theorem exec_of_ramGlyphs {i : Instr} {c : Command} {glyphs : Vector Bitmap 128}
    (hi : i.command = some (x, c)) (hc : c.WellFormed = true) (hfree : s.freeFor x c = true)
    (hneed : replyNeed (some c) = 0)
    (hstart : startCommand x c (s.grantedNow x c) = { s.grantedNow x c with ramGlyphs := glyphs }) :
    exec i s = .next { s.delivered x c with ramGlyphs := glyphs } :=
  exec_of_one_event hi hc hfree hneed hstart rfl rfl

/-- A command whose one event writes the slots, on a port served at once. -/
theorem exec_of_slots {i : Instr} {c : Command} {slots : Vector Slot 8}
    (hi : i.command = some (x, c)) (hc : c.WellFormed = true) (hfree : s.freeFor x c = true)
    (hneed : replyNeed (some c) = 0)
    (hstart : startCommand x c (s.grantedNow x c) = { s.grantedNow x c with slots := slots }) :
    exec i s = .next { s.delivered x c with slots := slots } :=
  exec_of_one_event hi hc hfree hneed hstart rfl rfl

/-- Settles O45: each command that passes its checks has one event, in the glyph or the slot it names. -/
theorem glyphCommandsChangeTheStore : Obligations.GlyphCommandsChangeTheStore := by
  refine fun s x code rows slot => ⟨fun hfree hv => ?_, fun hfree hv => ?_, fun hfree hv => ?_,
    fun hfree hv => ?_, fun hfree hv => ?_⟩
  · have hcode := State.glyph_passes hv
    exact ⟨_, exec_of_ramGlyphs rfl rfl hfree rfl (engineGlyph_taken hcode _),
      getElem_ramGlyphs_set s.ramGlyphs (bitmapOf rows) hcode, rfl⟩
  · obtain ⟨hslot, hcode⟩ := State.patch_passes hv
    exact ⟨_, exec_of_slots rfl rfl hfree rfl (enginePatch_taken hslot hcode _),
      getElem_disableRivals_set s.slots (fun _ => ⟨code, true, bitmapOf rows⟩) hslot code, rfl⟩
  · have hslot := State.patchRows_passes hv
    exact ⟨_, exec_of_slots rfl rfl hfree rfl (enginePatchRows_taken hslot _),
      getElem_slots_set s.slots (fun t => { t with bitmap := bitmapOf rows }) hslot, rfl⟩
  · obtain ⟨hslot, hcode⟩ := State.patchCode_passes hv
    exact ⟨_, exec_of_slots rfl rfl hfree rfl (enginePatchCode_taken hslot hcode _),
      getElem_disableRivals_set s.slots (fun t => { t with code := code, enabled := true }) hslot code,
      rfl⟩
  · have hslot := State.unpatch_passes hv
    exact ⟨_, exec_of_slots rfl rfl hfree rfl (engineUnpatch_taken hslot _),
      getElem_slots_set s.slots (fun t => { t with enabled := false }) hslot, rfl⟩

end Sys2Proof.Machine
end

section
/-! ### READ_GLYPH (R126, R127) -/

namespace Sys2Proof.Machine

variable {s : State} {x : Port} {slotOption : Bool} {slot : Fin 16} {code : Code}

theorem State.readGlyph_passes (h : s.verdict x (.readGlyph slotOption slot code) = none) :
    slotOption = true → slot.val < 8 := by
  have checks : slotOption = true → slot.val ≤ 7 := by
    simpa [State.checks, Command.ownerPane] using State.checks_passed h
  intro option
  have := checks option
  omega

/-- The rows READ_GLYPH reads are the slot's, the RAM glyph's or the ROM glyph's (R126). -/
theorem State.chosenRow_eq {row : Nat → BitVec 8} (inside : slotOption = true → slot.val < 8)
    (ofSlot : slotOption = true → ∀ i : Fin 8, i.val = slot.val → row = s.slots[i].bitmap.row)
    (ofRam : slotOption = false → ∀ i : Fin 128, i.val + 384 = code.val → row = s.ramGlyphs[i].row)
    (ofRom : slotOption = false → code.val < 384 → row = romRow code.val) :
    s.chosenRow slotOption slot code = row := by
  funext k
  cases slotOption with
  | true =>
    rw [ofSlot rfl ⟨slot.val, inside rfl⟩ rfl]
    simp [State.chosenRow, inside rfl]
  | false =>
    by_cases rom : code.val < 384
    · simp [State.chosenRow, State.unpatchedRow, rom, ofRom rfl rom]
    · have ram : code.val - 384 < 128 := by omega
      rw [ofRam rfl ⟨code.val - 384, ram⟩ (Nat.sub_add_cancel (by omega))]
      simp [State.chosenRow, State.unpatchedRow, rom, ram]

/-- A READ_GLYPH that is taken has the read of its bitmap to do (R127; log 30). -/
theorem startCommand_readGlyph (inside : slotOption = true → slot.val < 8) (t : State) :
    startCommand x (.readGlyph slotOption slot code) t =
      t.toDo [.readBitmap slotOption slot code] := by
  refine if_neg fun fails => ?_
  simp only [Bool.and_eq_true, decide_eq_true_eq] at fails
  have := inside fails.1
  omega

/-- The row of a READ_GLYPH that is taken is its one step on the delivered state, for which the eight places
are reserved (R89, R127). -/
theorem exec_readGlyph (hfree : s.freeFor x (.readGlyph slotOption slot code) = true)
    (inside : slotOption = true → slot.val < 8) :
    exec (.readGlyph x slotOption slot code) s = .next
      ((s.delivered x (.readGlyph slotOption slot code)).updPort x fun q => { q with
        reserved := 0
        reply := (s.port x).reply ++ readBackWords (s.chosenRow slotOption slot code) }) := by
  set m : Micro := .readBitmap slotOption slot code with hm
  set d := s.delivered x (.readGlyph slotOption slot code) with hd
  set f := grantedFlight x (.readGlyph slotOption slot code) with hf
  have port : d.port x = { s.port x with
      sent := (d.port x).sent, sentBits := (d.port x).sentBits, reserved := 8 } := by
    rw [hd, State.delivered, State.port_updPort_same]
    rfl
  have idle : d.flight = none := (State.servedAtOnce hfree).idle
  have step : engineStep (d.flying f [m]) =
      .next ((d.flying f [m]).stepDone { f with todo := [m] } m []) :=
    engineStep_cons rfl rfl (by simp [hm, Micro.address])
  have effect := Micro.effect_readBitmap { f with todo := [m] } (d.flying f [m]) slotOption slot code
    (by show 8 ≤ (d.port x).reserved; rw [port])
  calc exec (.readGlyph x slotOption slot code) s
      = engineSteps 1 (d.flying f [m]) := by
        rw [exec_of_freeFor rfl rfl hfree, State.begun_eq, beginCommand,
          startCommand_readGlyph inside, State.completeIfDone_cons x rfl rfl]
        rfl
    _ = .next ((m.effect { f with todo := [m] } (d.flying f [m])).complete x) := by
        simp only [engineSteps, step, State.stepDone_last]
        rfl
    _ = .next (d.updPort x fun q => { q with
          reserved := 0
          reply := (s.port x).reply ++ readBackWords (s.chosenRow slotOption slot code) }) := by
        rw [effect]
        refine congrArg _ ((State.complete_setPort idle _).trans ?_)
        rw [State.updPort_eq]
        have reply : (d.port x).reply = (s.port x).reply := by rw [port]
        rw [← reply]
        rfl

/-- Settles O46: the rows read are those the statement names, and the step appends their words. -/
theorem readGlyphAppendsABitmap : Obligations.ReadGlyphAppendsABitmap := by
  intro s x slotOption slot code row hfree hv ofSlot ofRam ofRom
  have inside := State.readGlyph_passes hv
  rw [exec_readGlyph hfree inside, State.chosenRow_eq inside ofSlot ofRam ofRom]
  rfl

end Sys2Proof.Machine
end

section
/-! ### Pictures along a run (R151, R152, R166, R169, R171) -/

namespace Sys2Proof.Machine

variable {s t : State} {x : Port}

/-! #### What tells two states of one picture apart -/

/-- What the law of pictures asks of a state: the displayed copies, the blink phase, the count of frame starts,
and whether frames run. -/
structure Picture where
  panes : Vector PaneView 16
  stack : List PaneId
  palette : Vector Colour 16
  ramp : Ramp
  staleColour : Index
  cursor : Cursor
  timing : Timing
  phaseOn : Bool
  count : Nat
  runs : Bool

/-- The picture a state belongs to. -/
def State.picture (s : State) : Picture where
  panes := s.shownPanes
  stack := s.shownStack
  palette := s.shownPalette
  ramp := s.shownRamp
  staleColour := s.shownStaleColour
  cursor := s.shownCursor
  timing := s.shownTiming
  phaseOn := s.blink.phaseOn
  count := s.frameCount
  runs := s.framesRun

/-- An event that leaves the picture keeps the law of pictures. -/
theorem State.PictureLaw.of_picture (h : t.picture = s.picture) : s.PictureLaw t := by
  simp only [State.picture, Picture.mk.injEq] at h
  obtain ⟨panes, stack, palette, ramp, stale, cursor, timing, phase, count, runs⟩ := h
  exact ⟨count.ge, fun hs ht => by simp [runs, hs] at ht, fun _ _ => ⟨panes.symm, stack.symm,
    palette.symm, ramp.symm, stale.symm, cursor.symm, timing.symm, phase.symm⟩⟩

/-- An event after which no frames run keeps it, whatever else it changes. -/
theorem State.PictureLaw.of_blank (count : t.frameCount = s.frameCount)
    (blank : t.framesRun = false) : s.PictureLaw t :=
  ⟨count.ge, fun _ ht => by simp [blank] at ht, fun _ ht => by simp [blank] at ht⟩

/-- An event that begins another picture keeps it. -/
theorem State.PictureLaw.of_next (count : s.frameCount < t.frameCount) : s.PictureLaw t :=
  ⟨count.le, fun _ _ => count, fun same _ => absurd same count.ne⟩

/-! #### The engine and the arbiter leave the picture -/

@[simp] theorem State.takeFlight_picture (s : State) (x : Port) (cut : Bool) (todo : List Micro) :
    (s.takeFlight x cut todo).picture = s.picture := by
  cases cut <;> rfl

/-- The first event of a command changes working copies alone (R17, R131, R143, R153). -/
theorem startCommand_picture (x : Port) (c : Command) (s : State) :
    (startCommand x c s).picture = s.picture := by
  cases c
  all_goals
    simp only [startCommand, engineDefine, engineShow, engineHide, engineDrop, engineClaim,
      engineRelease, engineRaise, engineLower, engineBehind, engineSetTop, beginRoll, beginLog,
      beginPlace, beginSweep, beginShift, beginTint, beginTick, beginReadCells, engineWait,
      engineGlyph, enginePatch, enginePatchRows, enginePatchCode, engineUnpatch, engineReadGlyph,
      enginePalette, engineRamp, engineStaleColour, engineBlink, engineCursor, engineTiming,
      engineLock]
  all_goals repeat' split
  all_goals first
    | rfl
    | exact State.takeFlight_picture s _ _ _

theorem grantTo_picture (x : Port) (s : State) : (grantTo x s).picture = s.picture := by
  rcases grantTo_cases x s with ⟨-, e⟩ | ⟨w, rest, -, ⟨-, e⟩ | ⟨c, -, e⟩⟩ <;> rw [e]
  · rfl
  · unfold beginCommand
    rcases State.completeIfDone_cases (startCommand x c (s.granted x w rest c)) x with h | h <;> rw [h]
    · exact startCommand_picture x c _
    · exact startCommand_picture x c (s.granted x w rest c)

/-- A step of the command in flight reaches cells, marks, a working pane and its port (R94). -/
theorem Micro.effect_picture (f : Flight) (m : Micro) (s : State) :
    (m.effect f s).picture = s.picture := by
  cases m <;> simp only [Micro.effect]
  case put | store | arrow | markEvent => split <;> rfl
  all_goals rfl

theorem engineStep_picture (h : engineStep s = .next t) : t.picture = s.picture := by
  rcases engineStep_next h with ⟨-, rfl⟩ | ⟨f, -, -, rfl⟩ | ⟨f, m, rest, -, -, -, rfl⟩
  · rfl
  · rfl
  · simp only [State.stepDone]
    split <;> exact m.effect_picture f s

/-! #### The events of the part -/

/-- A transfer's events replace their port. -/
theorem State.PictureLaw.of_setPort (h : ∃ p, t = s.setPort x p) : s.PictureLaw t := by
  obtain ⟨p, rfl⟩ := h
  exact .of_picture rfl

theorem State.frameStart_frameCount (s : State) (o : LatchOrder) :
    (s.frameStart o).frameCount = s.frameCount + 1 := by
  rw [State.frameStart_eq]

/-- A frame start that may come begins another picture, and where it does not come no frames run (R152). -/
theorem State.PictureLaw.onFrameStart (o : LatchOrder) (count : t.frameCount = s.frameCount) :
    s.PictureLaw (onFrameStart o t) := by
  unfold Machine.onFrameStart
  split
  · refine .of_next ?_
    rw [State.frameStart_frameCount, count]
    exact Nat.lt_succ_self _
  · rename_i stopped
    exact .of_blank count (Bool.eq_false_iff.mpr stopped)

theorem onPortReset_pictureLaw (x : Port) (s : State) : s.PictureLaw (onPortReset x s) := by
  cases held : (s.port x).held
  · rw [onPortReset_eq held, State.lineReset_eq]
    exact .of_picture rfl
  · rw [onPortReset, if_pos held]
    exact .refl s

/-- The end of the clear is a frame start where the clock is locked already (R151). -/
theorem onClearComplete_pictureLaw (o : LatchOrder) (s : State) : s.PictureLaw (onClearComplete o s) := by
  unfold onClearComplete
  split
  · exact .onFrameStart o rfl
  · exact .refl s

/-- The lock is a frame start where the clear is over already (R151). -/
theorem onLockAchieved_pictureLaw (o : LatchOrder) (s : State) : s.PictureLaw (onLockAchieved o s) := by
  unfold onLockAchieved
  split
  · exact .onFrameStart o rfl
  · exact .refl s

/-- Without lock no frames run (R150, R151). -/
theorem onLossOfLock_pictureLaw (s : State) : s.PictureLaw (onLossOfLock s) := by
  unfold onLossOfLock
  split
  · exact .of_blank rfl (State.framesRun_of_clock ClockState.noConfusion)
  · exact .refl s

theorem onStandbyEntry_pictureLaw (s : State) : s.PictureLaw (onStandbyEntry s) := by
  unfold onStandbyEntry
  split
  · exact .of_blank rfl (State.framesRun_of_clock ClockState.noConfusion)
  · exact .refl s

theorem onStandbyExit_pictureLaw (s : State) : s.PictureLaw (onStandbyExit s) := by
  unfold onStandbyExit
  split
  · exact .of_blank rfl (State.framesRun_of_clock ClockState.noConfusion)
  · exact .refl s

theorem onWakePulse_pictureLaw (s : State) : s.PictureLaw (onWakePulse s) := by
  unfold onWakePulse
  split
  · exact .of_picture rfl
  · exact .refl s

/-- Every event keeps the law of pictures. -/
theorem exec_pictureLaw {i : Instr} (h : exec i s = .next t) : s.PictureLaw t :=
  exec_keeps (P := s.PictureLaw)
    (fun x u hu => hu.trans (.of_setPort (onTransferStart_eq u x)))
    (fun x w u hu => hu.trans (.of_setPort (onWordSampled_port u x w)))
    (fun x k u hu => hu.trans (.of_setPort (onTransferEnd_eq u x k)))
    (fun u x hu _ => hu.trans (.of_picture (grantTo_picture x u)))
    (fun _ _ hu hstep => hu.trans (.of_picture (engineStep_picture hstep)))
    (fun _ _ _ hu => hu.trans (.of_blank rfl rfl))
    (fun _ hu => hu.trans (.of_blank rfl rfl))
    (fun o u hu => hu.trans (onClearComplete_pictureLaw o u))
    (fun o u hu => hu.trans (onLockAchieved_pictureLaw o u))
    (fun u hu => hu.trans (onLossOfLock_pictureLaw u))
    (fun o _ hu => hu.trans (.onFrameStart o rfl))
    (fun _ _ hu => hu.trans (.of_setPort ⟨_, rfl⟩))
    (fun x u hu => hu.trans (onPortReset_pictureLaw x u))
    (fun _ _ hu => hu.trans (.of_setPort ⟨_, rfl⟩))
    (fun u hu => hu.trans (onWakePulse_pictureLaw u))
    (fun u hu => hu.trans (onStandbyEntry_pictureLaw u))
    (fun u hu => hu.trans (onStandbyExit_pictureLaw u))
    i (.refl s) h

/-- So does every run of events. -/
theorem runEvents_pictureLaw {events : List Instr} (h : runEvents events s = .next t) :
    s.PictureLaw t := by
  induction events generalizing s with
  | nil =>
    obtain rfl := Host.Outcome.next.inj h
    exact .refl s
  | cons i rest ih =>
    obtain ⟨u, hu, hrest⟩ := runEvents_cons_next h
    exact (exec_pictureLaw hu).trans (ih hrest)

/-- A state of another picture is fetched from as the state of the output is: not at all (R169, R171). -/
theorem State.videoOut_of_other_picture {old : State} (h : old.frameCount ≠ s.frameCount) (beam : Beam) :
    s.videoOut old beam = s.videoOut s beam := by
  have fetch : s.fetchState old = s.fetchState s :=
    (State.fetchState_other h).trans State.fetchState_self.symm
  simp only [State.videoOut, State.pixel_congr fetch]

end Sys2Proof.Machine
end

section
/-! ### Composition (R37, R38, R124, R144, R148, R158-R169) -/

namespace Sys2Proof.Machine

variable {s live : State} {x y : Nat}

/-! #### The screen (R147, R148) -/

/-- The table of the presets, and whole columns in each picture. -/
theorem activePicture_table : ∀ preset : Fin 4,
    [(1920, 1080), (1920, 1200), (1280, 1024), (2560, 1440)][preset.val]? =
        some (activePicture preset) ∧
      8 ∣ (activePicture preset).1 := by decide

theorem Timing.inPicture_iff (t : Timing) :
    t.inPicture x y = true ↔ x < (activePicture t.preset).1 ∧ y < (activePicture t.preset).2 := by
  simp [Timing.inPicture]

/-- A line of the picture is on the screen unless it is a leftover line below the last row (R148). -/
theorem Timing.onScreen_iff (t : Timing) (hx : x < (activePicture t.preset).1) :
    t.onScreen (x / 8) (y / t.height) = true ↔
      y < (activePicture t.preset).2 / t.height * t.height := by
  obtain ⟨-, columns⟩ := activePicture_table t.preset
  have column : x / 8 < (activePicture t.preset).1 / 8 := by omega
  rw [Timing.onScreen, Timing.columns, Timing.rows, decide_eq_true column, Bool.true_and,
    decide_eq_true_eq]
  rcases Nat.eq_zero_or_pos t.height with zero | pos
  · simp [zero]
  · exact Nat.div_lt_iff_lt_mul pos

/-! #### The pane of a position (R37, R160) -/

/-- Outside the panes and off the screen a pixel of the picture shows entry 0 (R159, R160). -/
theorem State.pixel_of_no_pane (inside : s.shownTiming.inPicture x y = true)
    (h : s.paneAt (x / 8) (y / s.shownTiming.height) = none) :
    s.pixel live x y = s.shownPalette[(0 : Fin 16)] := by
  simp only [State.pixel, inside, h]
  rfl

theorem State.pixel_of_pane {p : PaneId} (inside : s.shownTiming.inPicture x y = true)
    (h : s.paneAt (x / 8) (y / s.shownTiming.height) = some p) :
    s.pixel live x y = s.panePixel (s.fetchState live) p (x / 8) (y / s.shownTiming.height)
      (y % s.shownTiming.height) (x % 8) := by
  simp only [State.pixel, inside, h]
  rfl

theorem State.frontPane_eq_none {col row : Nat}
    (h : ∀ p ∈ s.shownStack, (s.shownPane p).covers col row = false) : s.frontPane col row = none := by
  refine List.find?_eq_none.mpr fun p hp => ?_
  simp [h p hp]

/-- The frontmost pane that covers a position is the first one in the stack that does (R37). -/
theorem State.frontPane_eq_some {col row : Nat} {front back : List PaneId} {p : PaneId}
    (stack : s.shownStack = front ++ p :: back)
    (clear : ∀ q ∈ front, (s.shownPane q).covers col row = false)
    (covers : (s.shownPane p).covers col row = true) : s.frontPane col row = some p := by
  have before : (front.find? fun q => (s.shownPane q).covers col row) = none :=
    List.find?_eq_none.mpr fun q hq => by simp [clear q hq]
  rw [State.frontPane, stack, List.find?_append, before, Option.none_or,
    List.find?_cons_of_pos (by exact covers)]

/-! #### The glyph row (R124, R164) -/

/-- The slot found for a code is an enabled one that names it. -/
theorem State.slotFor_some {code : Code} {t : Slot} (h : s.slotFor code = some t) :
    ∃ i : Fin 8, s.slots[i] = t ∧ t.enabled = true ∧ t.code = code := by
  obtain ⟨k, hk, e⟩ := List.mem_iff_getElem.mp (List.mem_of_find?_eq_some h)
  have found := List.find?_some h
  simp only [Bool.and_eq_true, decide_eq_true_eq] at found
  exact ⟨⟨k, by simpa using hk⟩, by simpa using e, found⟩

theorem State.slotFor_none {code : Code} (h : s.slotFor code = none) (i : Fin 8)
    (enabled : s.slots[i].enabled = true) : s.slots[i].code ≠ code := by
  have passed := List.find?_eq_none.mp h s.slots[i] (by simp)
  rw [enabled, Bool.true_and, decide_eq_true_eq] at passed
  exact passed

/-- Which glyph's pixel scan-out draws: of an enabled slot that names the code, of the ROM, or of the RAM. -/
theorem State.glyphPixel_eq {code : Code} {scan i : Nat} {glyph : Bool}
    (ofSlot : ∀ j : Fin 8, code.val < 384 → s.slots[j].enabled = true → s.slots[j].code = code →
      glyph = pixelOn (s.slots[j].bitmap.row scan) i)
    (ofRom : code.val < 384 →
      (∀ j : Fin 8, s.slots[j].enabled = true → s.slots[j].code ≠ code) →
      glyph = romPixel code.val scan i)
    (ofRam : ∀ j : Fin 128, j.val + 384 = code.val → glyph = pixelOn (s.ramGlyphs[j].row scan) i) :
    s.glyphPixel code scan i = glyph := by
  unfold State.glyphPixel
  split
  · rename_i rom
    split
    · rename_i t found
      obtain ⟨j, rfl, enabled, names⟩ := State.slotFor_some found
      exact (ofSlot j rom enabled names).symm
    · rename_i missing
      exact (ofRom rom (State.slotFor_none missing)).symm
  · rename_i ram
    have inside : code.val - 384 < 128 := by omega
    rw [ofRam ⟨code.val - 384, inside⟩ (Nat.sub_add_cancel (by omega))]
    simp [State.unpatchedRow, ram, inside]

/-! #### The steps of composition -/

/-- The row, line and scan row of step 2 (R161). -/
theorem PaneView.spot_eq (v : PaneView) {h pr scan yy : Nat}
    (hyy : yy = (pr - v.frozen) * h + scan + min v.fine (h - 1)) :
    v.spot h pr scan =
      ⟨if pr < v.frozen then pr else v.frozen + yy / h,
        if pr < v.frozen then pr
        else v.frozen + ((v.top - v.frozen) + yy / h) % (v.ringLines - v.frozen),
        if pr < v.frozen then scan else yy % h⟩ := by
  subst hyy
  unfold PaneView.spot
  split <;> rfl

/-- The colours of a fetched cell after the mark, in step 3 (R162). -/
theorem State.markColours_eq {mark : Option Mark} {own marked : Index × Index}
    (unmarked : mark = none → marked = own)
    (covered : ∀ m, mark = some m → marked =
      if m.stage < (s.shownRamp.dir m.dir).count then
        (StageColour.over ((s.shownRamp.dir m.dir).stage m.stage).fg own.1,
          StageColour.over ((s.shownRamp.dir m.dir).stage m.stage).bg own.2)
      else own) :
    s.markColours mark own = marked := by
  cases mark with
  | none => exact (unmarked rfl).symm
  | some m => exact (covered m rfl).symm

/-- The stale colour and inverse, in steps 4 to 6 (R162, R163). -/
theorem State.cellColours_eq {v : PaneView} {f : Fetched} {marked staled : Index × Index}
    (hmarked : s.markColours f.mark (f.cell.attr.fg, f.cell.attr.bg) = marked)
    (hstaled : staled = (if v.stale then s.shownStaleColour else marked.1, marked.2)) :
    s.cellColours v f = if f.cell.attr.inverse then (staled.2, staled.1) else staled := by
  subst hmarked hstaled
  unfold State.cellColours
  cases v.stale <;> rfl

/-- Pixel `i` of a fetched cell, in steps 7 to 10 (R164-R166). -/
theorem State.glyphOn_fetch {u : State} {v : PaneView} {a scan i : Nat} {glyph : Bool} (hi : i < 8)
    (hglyph : u.glyphPixel (u.cell a).code scan i = glyph) :
    s.glyphOn v (u.fetch a scan) scan i =
      ((glyph || ((u.cell a).attr.underline && v.underlineRow = some scan)) &&
        !(u.cell a).attr.conceal && !((u.cell a).attr.blink && !s.blink.phaseOn)) := by
  subst hglyph
  simp [State.glyphOn, State.fetch, State.glyphRow, hi]

/-- Where the cursor is drawn (R144). -/
theorem State.cursorDrawn_eq (p : PaneId) (pc : Nat) (spot : RowSpot) :
    s.cursorDrawn p pc spot = decide
      ((s.shownCursor.mode = .steady ∨ (s.shownCursor.mode = .blink ∧ s.blink.phaseOn = true)) ∧
        s.shownCursor.startScan ≤ s.shownCursor.endScan ∧
        s.shownCursor.startScan < s.shownTiming.height ∧ s.shownCursor.pane = p ∧
        s.shownCursor.row < (s.shownPane p).height ∧ s.shownCursor.col < (s.shownPane p).width ∧
        s.shownCursor.col = pc ∧ s.shownCursor.row = spot.logical ∧
        s.shownCursor.startScan ≤ spot.scan ∧
        spot.scan ≤ min s.shownCursor.endScan (s.shownTiming.height - 1)) := by
  rw [Bool.eq_iff_iff]
  simp only [State.cursorDrawn, Bool.and_eq_true, Bool.or_eq_true, decide_eq_true_eq, and_assoc]

/-- A pixel that the glyph and the cursor both light, or neither does, is the background's (R167, R168). -/
theorem State.panePixel_eq {u : State} {p : PaneId} {col row scan i a : Nat} {spot : RowSpot}
    {last : Index × Index} {on drawn : Bool}
    (hspot : (s.shownPane p).spot s.shownTiming.height (row - (s.shownPane p).originRow) scan = spot)
    (ha : a = (s.shownPane p).lineAddr spot.line (col - (s.shownPane p).originCol))
    (hlast : s.cellColours (s.shownPane p) (u.fetch a spot.scan) = last)
    (hon : s.glyphOn (s.shownPane p) (u.fetch a spot.scan) spot.scan i = on)
    (hdrawn : s.cursorDrawn p (col - (s.shownPane p).originCol) spot = drawn) :
    s.panePixel u p col row scan i = s.shownPalette[if on = drawn then last.2 else last.1] := by
  subst ha
  simp only [State.panePixel, hspot, hlast, hon, hdrawn, State.entry]
  cases on <;> cases drawn <;> rfl

/-- The fetch of what a state puts out, as R169 says it. -/
theorem State.fetchState_eq (s live : State) :
    s.fetchState live = if s.framesRun = true ∧ live.framesRun = true ∧
      live.frameCount = s.frameCount then live else s := by
  simp only [State.fetchState, State.fetchedIn, Bool.and_eq_true, decide_eq_true_eq, and_assoc]

/-! #### The video lines (R158) -/

theorem State.videoOut_active (h : s.framesRun = true) (live : State) (x y : Nat) :
    s.videoOut live (.active x y) =
      ⟨s.pixel live x y, false, false, s.shownTiming.inPicture x y, true⟩ := by
  simp only [State.videoOut, h, if_true]

theorem State.videoOut_blanking (h : s.framesRun = true) (live : State) (hPulse vPulse : Bool) :
    s.videoOut live (.blanking hPulse vPulse) = ⟨⟨0, 0, 0⟩, hPulse, vPulse, false, true⟩ := by
  simp only [State.videoOut, h, if_true]

/-- Off the picture there is no colour. -/
theorem State.pixel_outside (h : s.shownTiming.inPicture x y = false) (live : State) :
    s.pixel live x y = ⟨0, 0, 0⟩ := by
  simp only [State.pixel, h, Bool.not_false, if_true]

/-- Settles O50: the pane of a position is the first that covers it, each step of its pixel has its lemma, and
a run keeps the law of pictures. -/
theorem compositionFollowsItsSteps : Obligations.CompositionFollowsItsSteps := by
  refine ⟨fun s live fetched width lines h hpicture hh hfetched => ?_,
    fun events s t hrun hframes => ?_, fun x y r rest s live out hlive hout => ?_⟩
  · obtain ⟨table, -⟩ := activePicture_table s.shownTiming.preset
    rw [table, Option.some.injEq] at hpicture
    obtain rfl : width = (activePicture s.shownTiming.preset).1 := by rw [hpicture]
    obtain rfl : lines = (activePicture s.shownTiming.preset).2 := by rw [hpicture]
    subst hh
    rw [← State.fetchState_eq] at hfetched
    have inside : ∀ {x y}, x < (activePicture s.shownTiming.preset).1 →
        y < (activePicture s.shownTiming.preset).2 → s.shownTiming.inPicture x y = true :=
      fun hx hy => s.shownTiming.inPicture_iff.mpr ⟨hx, hy⟩
    refine ⟨fun stopped b => State.videoOut_blank stopped live b, fun running => ⟨?_, ?_, ?_⟩,
      fun x y hx hy => ⟨?_, fun onScreen => ⟨?_, ?_⟩⟩⟩
    · exact State.videoOut_blanking running live
    · intro x y hx hy
      rw [State.videoOut_active running, inside hx hy]
    · intro x y beyond
      have outside : s.shownTiming.inPicture x y = false := by
        rw [← Bool.not_eq_true, Timing.inPicture_iff]
        omega
      rw [State.videoOut_active running, State.pixel_outside outside, outside]
    · intro leftover
      refine State.pixel_of_no_pane (inside hx hy) (if_neg ?_)
      rw [Timing.onScreen_iff _ hx]
      omega
    · intro uncovered
      refine State.pixel_of_no_pane (inside hx hy) ?_
      rw [State.paneAt, State.frontPane_eq_none uncovered, ite_self]
    · intro front back p v pr pc yy stack clear hv covers hpr hpc hyy logical line scan a cell marked
        staled last glyph on drawn k hlogical hline hscan ha hcell unmarked covered hstaled hlast ofSlot
        ofRom ofRam hon hk hdrawn
      subst hv hpr hpc hcell hk
      have shown : s.paneAt (x / 8) (y / s.shownTiming.height) = some p := by
        rw [State.paneAt, if_pos ((Timing.onScreen_iff _ hx).mpr onScreen)]
        exact State.frontPane_eq_some stack clear covers
      have spot : (s.shownPane p).spot s.shownTiming.height
          (y / s.shownTiming.height - (s.shownPane p).originRow) (y % s.shownTiming.height) =
            ⟨logical, line, scan⟩ := by
        rw [hlogical, hline, hscan]
        exact PaneView.spot_eq _ hyy
      have colours : s.cellColours (s.shownPane p) (fetched.fetch a scan) = last :=
        (State.cellColours_eq (State.markColours_eq unmarked covered) hstaled).trans hlast.symm
      have lit : s.glyphOn (s.shownPane p) (fetched.fetch a scan) scan (x % 8) = on :=
        (State.glyphOn_fetch (Nat.mod_lt x (by decide))
          (State.glyphPixel_eq ofSlot ofRom ofRam)).trans hon.symm
      rw [State.pixel_of_pane (inside hx hy) shown, ← hfetched]
      exact State.panePixel_eq spot ha colours lit ((State.cursorDrawn_eq p _ _).trans hdrawn.symm)
  · obtain ⟨-, begins, stays⟩ := runEvents_pictureLaw hrun
    refine ⟨fun same => ⟨?_, stays same hframes⟩, fun stopped old ahead beam => ?_⟩
    · by_contra stopped
      exact absurd same (begins (Bool.eq_false_iff.mpr stopped) hframes).ne
    · exact State.videoOut_of_other_picture
        (ahead.trans_lt (begins stopped hframes)).ne beam
  · simp only [drawRows, hlive, hout]

end Sys2Proof.Machine
end

section
/-! ### RAMP (R132, R133) -/

namespace Sys2Proof.Machine

variable {s : State} {x : Port} {dir : Fin 4} {stage : Fin 16} {fg bg : StageColour}
  {duration count : Nat}

/-- The direction read after one direction's part is replaced. -/
theorem Ramp.dir_setDir (r : Ramp) (d e : Direction) (part : DirRamp) :
    (r.setDir d part).dir e = if e = d then part else r.dir e := by
  cases d <;> cases e <;> rfl

/-- Setting one stage of a direction writes the record of that number alone. -/
theorem DirRamp.getElem_withStage (part : DirRamp) (st : RampStage) (n : Nat) (k : Fin 4) :
    (part.withStage stage.val st n).stages[k] = if k.val = stage.val then st else part.stages[k] := by
  simp only [DirRamp.withStage, Fin.getElem_fin, Vector.getElem_setIfInBounds, eq_comm]

/-- Each of the first three values names its direction (R133). -/
theorem directionOf_named (h : dir ≠ 3) :
    directionOf dir = some (if dir = 0 then .up else if dir = 1 then .down else .neutral) := by
  match dir with
  | 0 | 1 | 2 => rfl
  | 3 => exact absurd rfl h

/-- What a RAMP that passes its checks names: a direction, and one of its four stages (R133). -/
theorem State.ramp_passes (h : s.verdict x (.ramp dir stage fg bg duration count) = none) :
    dir ≠ 3 ∧ ¬3 < stage.val := by
  simpa [State.checks, Command.ownerPane] using State.checks_passed h

/-- A RAMP that is taken writes the stage and the count of its direction (R133). -/
theorem engineRamp_taken {d : Direction} (named : directionOf dir = some d) (inside : ¬3 < stage.val)
    (s : State) :
    engineRamp dir stage fg bg duration count s = { s with
      ramp := s.ramp.setDir d
        ((s.ramp.dir d).withStage stage.val ⟨fg, bg, max 1 duration⟩ (min 4 (max 1 count))) } := by
  simp only [engineRamp, named, if_neg inside]

/-- Settles O48: RAMP is its one event, which writes the part of one direction. -/
theorem rampSetsOneStage : Obligations.RampSetsOneStage := by
  intro s x dir stage fg bg duration count d hw hfree hv hd
  obtain ⟨hdir, inside⟩ := State.ramp_passes hv
  have named : directionOf dir = some d := hd ▸ directionOf_named hdir
  have hduration : max 1 duration = if duration = 0 then 1 else duration := by split <;> omega
  have hcount : min 4 (max 1 count) = if count = 0 then 1 else if 4 < count then 4 else count := by
    split_ifs <;> omega
  refine ⟨{ s.delivered x (.ramp dir stage fg bg duration count) with
      ramp := s.ramp.setDir d
        ((s.ramp.dir d).withStage stage.val ⟨fg, bg, max 1 duration⟩ (min 4 (max 1 count))) },
    exec_of_one_event rfl hw hfree rfl (engineRamp_taken named inside _) rfl rfl,
    fun e he => ?_, fun k => ?_, ?_, rfl⟩
  · rw [Ramp.dir_setDir, if_neg he]
  · rw [Ramp.dir_setDir, if_pos rfl, DirRamp.getElem_withStage, hduration]
  · rw [Ramp.dir_setDir, if_pos rfl, ← hcount]
    rfl

end Sys2Proof.Machine
end

section
/-! ### The blink timer over a run of frame starts (R136, R137) -/

namespace Sys2Proof.Machine

variable {s : State} {t : BlinkTimer}

/-! #### The timer by itself -/

/-- A timer with no period pending that starts a half period, `n` frame starts later. -/
def BlinkTimer.after (t : BlinkTimer) (n : Nat) : BlinkTimer :=
  { t with
    counter := n % (t.latch / 2)
    phaseOn := t.phaseOn != decide (n / (t.latch / 2) % 2 = 1) }

theorem BlinkTimer.after_zero (hcounter : t.counter = 0) : t.after 0 = t := by
  obtain ⟨latch, pending, counter, phaseOn⟩ := t
  subst hcounter
  simp [BlinkTimer.after]

/-- At the end of a half period the timer toggles, and before it counts one more frame (R137). -/
theorem BlinkTimer.frame_last (h : t.counter + 1 = t.latch / 2) : t.frame = t.toggle := if_pos h

theorem BlinkTimer.frame_early (h : t.counter + 1 ≠ t.latch / 2) :
    t.frame = { t with counter := t.counter + 1 } := if_neg h

/-- One more frame start: it ends a half period, or falls into the same one as the last. -/
theorem BlinkTimer.frame_after (hpending : t.pending = none) (pos : 0 < t.latch / 2) (n : Nat) :
    (t.after n).frame = t.after (n + 1) := by
  by_cases last : n % (t.latch / 2) + 1 = t.latch / 2
  · have counter : (n + 1) % (t.latch / 2) = 0 := by rw [← Nat.mod_add_mod, last, Nat.mod_self]
    have flips (q : Nat) : decide ((q + 1) % 2 = 1) = !decide (q % 2 = 1) := by
      rw [← decide_not, decide_eq_decide]
      omega
    rw [BlinkTimer.frame_last last]
    simp only [BlinkTimer.toggle, BlinkTimer.after, counter, Nat.succ_div_of_mod_eq_zero counter, flips,
      Bool.bne_not, hpending, Option.getD_none]
  · have counter : (n + 1) % (t.latch / 2) = n % (t.latch / 2) + 1 := by
      have inside := Nat.mod_lt n pos
      rw [← Nat.mod_add_mod]
      exact Nat.mod_eq_of_lt (by omega)
    have same : (n + 1) / (t.latch / 2) = n / (t.latch / 2) :=
      Nat.succ_div_of_mod_ne_zero (by rw [counter]; exact Nat.succ_ne_zero _)
    rw [BlinkTimer.frame_early last]
    simp only [BlinkTimer.after, counter, same]

/-- So `n` frame starts bring the timer that far. -/
theorem BlinkTimer.iterate_frame (hpending : t.pending = none) (hcounter : t.counter = 0)
    (pos : 0 < t.latch / 2) (n : Nat) : BlinkTimer.frame^[n] t = t.after n := by
  induction n with
  | zero => exact (BlinkTimer.after_zero hcounter).symm
  | succ n ih => rw [Function.iterate_succ_apply', ih, BlinkTimer.frame_after hpending pos]

/-! #### The run -/

/-- A frame start latches the ramp, so a state whose two ramps differ is steady after it (R131). -/
theorem State.frameStart_steady (runs : s.framesRun = true)
    (preset : s.timing.preset = s.shownTiming.preset)
    (quiet : s.flight ≠ none ∨ ∀ x, (s.port x).queue = []) (o : LatchOrder) :
    (s.frameStart o).Steady := by
  have latched : State.Steady { s with shownRamp := s.ramp } := ⟨runs, rfl, preset, quiet⟩
  obtain ⟨runs, ramp, preset, quiet⟩ := latched.frameStart o
  cases o <;> exact ⟨runs, ramp, preset, quiet⟩

/-- Through a run of frame starts the blink timer takes its own action at each of them. -/
theorem State.runEvents_frameStart_blink (runs : s.framesRun = true)
    (preset : s.timing.preset = s.shownTiming.preset)
    (quiet : s.flight ≠ none ∨ ∀ x, (s.port x).queue = []) (o : LatchOrder) (n : Nat) :
    ∃ u, runEvents (List.replicate n (.frameStart o)) s = .next u ∧
      u.blink = BlinkTimer.frame^[n] s.blink := by
  induction n generalizing s with
  | zero => exact ⟨s, rfl, rfl⟩
  | succ n ih =>
    have steady := State.frameStart_steady runs preset quiet o
    have first : exec (.frameStart o) s = .next (s.frameStart o) := by
      rw [exec_frameStart_running runs, State.arbitrate_quiet steady.quiet]
    obtain ⟨u, run, blink⟩ := ih steady.runs steady.preset steady.quiet
    refine ⟨u, (runEvents_cons first).trans run, ?_⟩
    rw [blink, State.frameStart_blink, Function.iterate_succ_apply]

/-- Settles O9: the run makes the timer's own action at each frame start, and the half periods count up. -/
theorem blinkPhaseFollowsThePeriod : Obligations.BlinkPhaseFollowsThePeriod := by
  intro s o n runs preset ⟨two_le, _, _⟩ hpending hcounter quiet
  obtain ⟨u, run, blink⟩ := State.runEvents_frameStart_blink runs preset quiet o n
  exact ⟨u, run, blink.trans (BlinkTimer.iterate_frame hpending hcounter (by omega) n)⟩

end Sys2Proof.Machine
end

section
/-! ### What a command, a frame start and a port reset do to the settings (R119-R123, R136-R145, R152-R155) -/

namespace Sys2Proof.Machine

variable {s t : State}

/-- The stores that the laws of the slots, the cursor, the blink timer and the timings ask about, the timing
lock, and the owner of each pane. -/
structure Settings where
  slots : Vector Slot 8
  blink : BlinkTimer
  cursor : Cursor
  holder : Option Port
  timing : Timing
  shownTiming : Timing
  locked : Bool
  owner : PaneId → Option Port

/-- The settings of a state. -/
def State.settings (s : State) : Settings where
  slots := s.slots
  blink := s.blink
  cursor := s.cursor
  holder := s.holder
  timing := s.timing
  shownTiming := s.shownTiming
  locked := s.timingLock
  owner := fun p => (s.pane p).owner

/-- All that one operation of the part, other than a power-on reset, may do to the settings: nothing; a slot
named for a ROM code with its rivals disabled, or a slot edited that keeps its code and is not newly enabled; a
blink period pending; the cursor put into an owned pane; a working timing, or its lock; a free pane claimed; panes
given up, with the cursor off that stands in one of them; or a frame start. -/
inductive Sets (s t : State) : Prop
  | kept (h : t.settings = s.settings)
  | named (k : Nat) (hk : k < 8) (g : Slot → Slot) (code : Code) (rom : code.val < 384)
      (names : ∀ r, (g r).code = code)
      (h : t.settings = { s.settings with
        slots := (disableRivals s.slots k code).set k (g s.slots[k]) hk })
  | edited (k : Nat) (hk : k < 8) (g : Slot → Slot) (code : ∀ r, (g r).code = r.code)
      (enabled : ∀ r, (g r).enabled = true → r.enabled = true)
      (h : t.settings = { s.settings with slots := s.slots.set k (g s.slots[k]) hk })
  | blinks (n : Nat) (even : EvenPeriod n)
      (h : t.settings = { s.settings with blink := { s.blink with pending := some n } })
  | placed (x : Port) (c : Cursor) (owner : (s.pane c.pane).owner = some x)
      (h : t.settings = { s.settings with
        cursor := c, holder := if c.mode = .off then none else some x })
  | timed (timing : Timing) (height : 8 ≤ timing.height ∧ timing.height ≤ 16)
      (h : t.settings = { s.settings with timing := timing })
  | locks (h : t.settings = { s.settings with locked := true })
  | claimed (x : Port) (p : PaneId) (free : (s.pane p).owner = none)
      (h : t.settings = { s.settings with owner := Function.update s.settings.owner p (some x) })
  | released (owner : PaneId → Option Port) (cursor : Cursor) (holder : Option Port)
      (stands : cursor.mode = .off ∧ holder = none ∨ cursor = s.cursor ∧ holder = s.holder ∧
        (s.cursor.mode ≠ .off → owner s.cursor.pane = (s.pane s.cursor.pane).owner))
      (h : t.settings = { s.settings with cursor := cursor, holder := holder, owner := owner })
  | frame (h : t.settings = { s.settings with blink := s.blink.frame, shownTiming := s.timing })

/-! #### The first event of a command -/

theorem State.settings_setPane (s : State) (p : PaneId) (r : Pane) :
    (s.setPane p r).settings =
      { s.settings with owner := Function.update s.settings.owner p r.owner } := by
  have owner : (s.setPane p r).settings.owner = Function.update s.settings.owner p r.owner := by
    funext q
    by_cases hq : q = p
    · subst hq
      rw [Function.update_self]
      exact congrArg Pane.owner (State.pane_setPane_same s q r)
    · rw [Function.update_of_ne hq]
      exact congrArg Pane.owner (State.pane_setPane_other s r hq)
  rw [← owner]
  rfl

/-- A pane's record replaced by one of the same owner. -/
theorem State.settings_setPane_of_owner (s : State) (p : PaneId) (r : Pane)
    (owner : r.owner = (s.pane p).owner) : (s.setPane p r).settings = s.settings := by
  rw [State.settings_setPane, owner]
  exact congrArg (fun owner => { s.settings with owner := owner }) (Function.update_eq_self p _)

theorem State.settings_setView (s : State) (p : PaneId) (v : PaneView) :
    (s.setView p v).settings = s.settings := s.settings_setPane_of_owner p _ rfl

theorem Sets.takeFlight (x : Port) (cut : Bool) (todo : List Micro) : Sets s (s.takeFlight x cut todo) := by
  cases cut <;> exact .kept rfl

/-- PATCH names its slot for a ROM code, as PATCH_CODE does; PATCH_ROWS and UNPATCH edit theirs (R120-R123). -/
theorem enginePatch_sets (slot : Fin 16) (code : Code) (rows : RowPairs) (s : State) :
    Sets s (enginePatch slot code rows s) := by
  unfold enginePatch
  split
  · split
    · exact .kept rfl
    · rename_i hslot hcode
      exact .named slot.val hslot (fun _ => ⟨code, true, bitmapOf rows⟩) code (by omega)
        (fun _ => rfl) rfl
  · exact .kept rfl

theorem enginePatchCode_sets (slot : Fin 16) (code : Code) (s : State) :
    Sets s (enginePatchCode slot code s) := by
  unfold enginePatchCode
  split
  · split
    · exact .kept rfl
    · rename_i hslot hcode
      exact .named slot.val hslot (fun r => { r with code := code, enabled := true }) code (by omega)
        (fun _ => rfl) rfl
  · exact .kept rfl

theorem enginePatchRows_sets (slot : Fin 16) (rows : RowPairs) (s : State) :
    Sets s (enginePatchRows slot rows s) := by
  unfold enginePatchRows
  split
  · rename_i hslot
    exact .edited slot.val hslot (fun r => { r with bitmap := bitmapOf rows }) (fun _ => rfl)
      (fun _ => id) rfl
  · exact .kept rfl

theorem engineUnpatch_sets (slot : Fin 16) (s : State) : Sets s (engineUnpatch slot s) := by
  unfold engineUnpatch
  split
  · rename_i hslot
    exact .edited slot.val hslot (fun r => { r with enabled := false }) (fun _ => rfl)
      (fun _ h => nomatch h) rfl
  · exact .kept rfl

theorem engineCursor_sets (x : Port) (p : PaneId) (row col startScan endScan : Nat) (mode : Fin 4)
    (s : State) : Sets s (engineCursor x p row col startScan endScan mode s) := by
  unfold engineCursor
  split
  · exact .kept rfl
  · rename_i owns
    split
    · exact .kept rfl
    · split
      · exact .kept rfl
      · rename_i m _ _
        exact .placed x ⟨p, row, col, startScan, endScan, m⟩ (by simpa [State.owns] using owns) rfl

/-- The height TIMING takes is one that the part can show (R147, R154). -/
theorem cellHeight_range (height : Nat) : 8 ≤ cellHeight height ∧ cellHeight height ≤ 16 := by
  unfold cellHeight
  omega

theorem engineTiming_sets (preset : Fin 4) (height : Nat) (s : State) :
    Sets s (engineTiming preset height s) := by
  unfold engineTiming
  split
  · exact .kept rfl
  · exact .timed ⟨preset, cellHeight height⟩ (cellHeight_range height) rfl

/-- CLAIM gives the port a pane that nobody owns (R26). -/
theorem engineClaim_sets (x : Port) (p : PaneId) (s : State) : Sets s (engineClaim x p s) := by
  unfold engineClaim
  split
  · split <;> exact .kept rfl
  · rename_i free
    split
    · exact .kept rfl
    · split
      · exact .kept rfl
      · exact .claimed x p free (s.settings_setPane p { s.pane p with owner := some x, hold := none })

/-- RELEASE turns the cursor off that stands in the pane (R27, R145). -/
theorem engineRelease_sets (x : Port) (p : PaneId) (s : State) : Sets s (engineRelease x p s) := by
  have owners := s.settings_setPane p (Pane.released (s.pane p) x)
  simp only [engineRelease]
  split
  · exact .kept rfl
  · split
    · exact .released (Function.update s.settings.owner p none) { s.cursor with mode := .off } none
        (.inl ⟨rfl, rfl⟩)
        (congrArg (fun a : Settings => { a with
          cursor := { s.cursor with mode := .off }, holder := none }) owners)
    · rename_i elsewhere
      refine .released (Function.update s.settings.owner p none) s.cursor s.holder
        (.inr ⟨rfl, rfl, fun on => Function.update_of_ne (fun stands => ?_) _ _⟩) owners
      simp [stands, on] at elsewhere

/-- The first event of a command does to the settings what its rule says. -/
theorem startCommand_sets (x : Port) (c : Command) (s : State) : Sets s (startCommand x c s) := by
  cases c <;> simp only [startCommand]
  case define p g =>
    unfold engineDefine
    repeat' split
    all_goals first
      | exact .kept rfl
      | exact .kept (s.settings_setPane_of_owner p (Geometry.record g (s.pane p)) rfl)
  case dropPane p =>
    unfold engineDrop
    split
    · exact .kept rfl
    · exact .kept (s.settings_setPane_of_owner p { s.pane p with
        view := { (s.pane p).view with state := .undefined }, pinned := false } rfl)
  case claim p => exact engineClaim_sets x p s
  case release p => exact engineRelease_sets x p s
  case patch slot code rows => exact enginePatch_sets slot code rows s
  case patchRows slot rows => exact enginePatchRows_sets slot rows s
  case patchCode slot code => exact enginePatchCode_sets slot code s
  case unpatch slot => exact engineUnpatch_sets slot s
  case blink period => exact .blinks (blinkPeriod period) (blinkPeriod_ranges period).1 rfl
  case cursor p row col startScan endScan mode => exact engineCursor_sets x p row col startScan endScan mode s
  case timing preset height => exact engineTiming_sets preset height s
  case lock => exact .locks rfl
  all_goals
    simp only [engineShow, engineHide, engineRaise, engineLower, engineBehind, engineSetTop, beginRoll,
      beginLog, beginPlace, beginSweep, beginShift, beginTint, beginTick, beginReadCells, engineWait,
      engineGlyph, engineReadGlyph, enginePalette, engineRamp, engineStaleColour]
  all_goals repeat' split
  all_goals first
    | exact .kept rfl
    | exact .takeFlight x _ _
    | exact .kept (s.settings_setView _ _)

/-! #### The engine, the frame start and the port reset -/

/-- A step of the command in flight reaches no setting (R94). -/
theorem Micro.effect_settings (f : Flight) (m : Micro) (s : State) :
    (m.effect f s).settings = s.settings := by
  cases m <;> simp only [Micro.effect]
  case put | store | arrow | markEvent => split <;> rfl
  case advance c => exact s.settings_setView f.pane _
  all_goals rfl

theorem engineStep_settings (h : engineStep s = .next t) : t.settings = s.settings := by
  rcases engineStep_next h with ⟨-, rfl⟩ | ⟨f, -, -, rfl⟩ | ⟨f, m, rest, -, -, -, rfl⟩
  · rfl
  · rfl
  · simp only [State.stepDone]
    split <;> exact m.effect_settings f s

/-- A frame start, where it comes, counts the blink timer and applies the working timing (R137, R153). -/
theorem Sets.onFrameStart (o : LatchOrder) (h : t.settings = s.settings) : Sets s (onFrameStart o t) := by
  unfold Machine.onFrameStart
  split
  · obtain ⟨pane, -, -⟩ := t.frameStart_order o
    have owner : (fun q => ((t.frameStart o).pane q).owner) = t.settings.owner :=
      funext fun q => by rw [pane]; rfl
    have frame : (t.frameStart o).settings = { t.settings with
        blink := t.blink.frame, shownTiming := t.timing
        owner := fun q => ((t.frameStart o).pane q).owner } := by
      rw [← State.frameStart_blink t o]
      exact congrArg State.settings (t.frameStart_eq o)
    have blink : t.blink = s.blink := congrArg Settings.blink h
    have timing : t.timing = s.timing := congrArg Settings.timing h
    exact .frame (by rw [frame, owner, h, blink, timing])
  · exact .kept h

/-- A port reset gives up the port's panes, and turns the cursor off that the port holds or that stands in one
of them (R30, R145). -/
theorem onPortReset_sets (x : Port) (s : State) : Sets s (onPortReset x s) := by
  cases held : (s.port x).held
  · rw [onPortReset_eq held]
    refine .released (fun p => ((s.releaseAll x).pane p).owner) (s.dropCursor x).cursor
      (s.dropCursor x).holder ?_ (by rw [State.lineReset_eq]; rfl)
    rw [State.dropCursor_eq]
    split
    · exact .inl ⟨rfl, rfl⟩
    · rename_i elsewhere
      refine .inr ⟨rfl, rfl, fun on => ?_⟩
      have others : (s.pane s.cursor.pane).owner ≠ some x := fun own => elsewhere (.inr ⟨on, own⟩)
      rw [State.pane_releaseAll, if_neg others]
  · rw [onPortReset, if_pos held]
    exact .kept rfl

end Sys2Proof.Machine
end

section
/-! ### Laws of the settings, kept by every step but a power-on reset -/

namespace Sys2Proof.Machine

variable {s t : State}

/-- A law that every change of the settings keeps. -/
def KeptBySetting (P : State → Prop) : Prop := ∀ {s t}, Sets s t → P s → P t

/-- The end of the power-on clear may be a frame start (R151). -/
theorem onClearComplete_sets (o : LatchOrder) (s : State) : Sets s (onClearComplete o s) := by
  unfold onClearComplete
  split
  · exact .onFrameStart o rfl
  · exact .kept rfl

/-- So may the lock of the clock (R149). -/
theorem onLockAchieved_sets (o : LatchOrder) (s : State) : Sets s (onLockAchieved o s) := by
  unfold onLockAchieved
  split
  · exact .onFrameStart o rfl
  · exact .kept rfl

/-- A port replaced. -/
theorem Sets.setPort {x : Port} (h : ∃ p, t = s.setPort x p) : Sets s t := by
  obtain ⟨p, rfl⟩ := h
  exact .kept rfl

namespace KeptBySetting

variable {P : State → Prop} (law : KeptBySetting P)

include law

theorem same (hs : P s) (h : t.settings = s.settings) : P t := law (.kept h) hs

theorem grantTo (s : State) (x : Port) (hs : P s) : P (grantTo x s) := by
  rcases grantTo_cases x s with ⟨-, e⟩ | ⟨w, rest, -, ⟨-, e⟩ | ⟨c, -, e⟩⟩ <;> rw [e]
  · exact hs
  · exact law.same hs rfl
  · have granted : P (s.granted x w rest c) := law.same hs rfl
    have started := law (startCommand_sets x c _) granted
    unfold beginCommand
    rcases State.completeIfDone_cases (startCommand x c (s.granted x w rest c)) x with h | h <;> rw [h]
    · exact started
    · exact law.same started rfl

theorem arbitrate (s : State) (hs : P s) : P s.arbitrate :=
  State.arbitrate_keeps (fun s x hs _ => law.grantTo s x hs) s hs

theorem engineStep (s t : State) (hs : P s) (h : engineStep s = .next t) : P t :=
  law (.kept (engineStep_settings h)) hs

theorem sendWords (x : Port) (ws : List Word) (s : State) (hs : P s) : P (sendWords x ws s) := by
  have words : ∀ (ws : List Word) (u : State), P u →
      P (ws.foldl (fun t w => (onWordSampled x w t).arbitrate) u) := by
    intro ws
    induction ws with
    | nil => exact fun u hu => hu
    | cons w ws ih =>
      exact fun u hu => ih _ (law.arbitrate _ (law (.setPort (onWordSampled_port u x w)) hu))
  unfold Machine.sendWords
  split
  · exact hs
  · have taken := words ws _ (law (.setPort (onTransferStart_eq s x)) hs)
    exact law.arbitrate _ (law (.setPort (onTransferEnd_eq _ x 0)) taken)

/-- An event other than a power-on reset keeps the law. -/
theorem exec {i : Instr} (other : ∀ osel tsel, i ≠ .powerOnReset osel tsel) (hs : P s)
    (h : exec i s = .next t) : P t := by
  have now : ∀ {u : State}, Sets s u → (.next u : Host.Outcome State Fault Refusal) = .next t → P t :=
    fun sets e => Host.Outcome.next.inj e ▸ law sets hs
  have searched : ∀ {u : State}, Sets s u →
      (.next u.arbitrate : Host.Outcome State Fault Refusal) = .next t → P t :=
    fun sets e => Host.Outcome.next.inj e ▸ law.arbitrate _ (law sets hs)
  have sent : ∀ {x : Port} {ws : List Word},
      (.next (Machine.sendWords x ws s) : Host.Outcome State Fault Refusal) = .next t → P t :=
    fun e => Host.Outcome.next.inj e ▸ law.sendWords _ _ s hs
  have stepped : thenArbitrate (Machine.engineStep s) = .next t → P t := fun e => by
    obtain ⟨u, hu, rfl⟩ := thenArbitrate_next e
    exact law.arbitrate _ (law.engineStep s u hs hu)
  cases hc : i.command with
  | some xc =>
    obtain ⟨x, c⟩ := xc
    rw [exec_command hc] at h
    exact sendCommand_keeps (law.sendWords x) (fun s x hs _ => law.grantTo s x hs) law.engineStep hs h
  | none =>
    cases i
    all_goals try (simp only [Instr.command, reduceCtorEq] at hc; done)
    case powerOnReset osel tsel => exact absurd rfl (other osel tsel)
    case planeClearComplete o => exact searched (onClearComplete_sets o s) h
    case clockLockAchieved o => exact searched (onLockAchieved_sets o s) h
    case frameStart o => exact searched (.onFrameStart o rfl) h
    case markStageExpiry place =>
      refine searched ?_ h
      obtain e | e := onStageExpiry_cases place s <;> rw [e]
      exacts [.kept rfl, .onFrameStart _ rfl]
    case blinkToggle =>
      refine searched ?_ h
      obtain e | e := onBlinkToggle_cases s <;> rw [e]
      exacts [.kept rfl, .onFrameStart _ rfl]
    case lossOfLock => exact now (by unfold onLossOfLock; split <;> exact .kept rfl) h
    case wakeClearPulse => exact searched (by unfold onWakePulse; split <;> exact .kept rfl) h
    case standbyEntry => exact now (by unfold onStandbyEntry; split <;> exact .kept rfl) h
    case standbyExit => exact now (by unfold onStandbyExit; split <;> exact .kept rfl) h
    case transferStart x => exact now (.setPort (onTransferStart_eq s x)) h
    case transferEnd x k => exact searched (.setPort (onTransferEnd_eq s x k)) h
    case wordSampled x w => exact searched (.setPort (onWordSampled_port s x w)) h
    case fetch | faults | clear | mode | ident => exact sent h
    case commandCompletion =>
      simp only [Machine.exec, execCompletion] at h
      split at h
      · exact stepped h
      · exact now (.kept rfl) h
    case cellAccess => exact stepped h
    case portReset x => exact searched (onPortReset_sets x s) h
    case arbiterGrant => exact searched (.kept rfl) h
    case retryExpiry x => exact searched (.setPort (t := onRetryExpiry x s) ⟨_, rfl⟩) h
    case portResetRelease x => exact now (.setPort (t := onPortResetRelease x s) ⟨_, rfl⟩) h
    case resetAssertion => exact now (.kept (t := onResetAssertion s) rfl) h

/-- A step keeps the law, or is a power-on reset. -/
theorem step (hs : P s) (h : step s = .next t) :
    P t ∨ ∃ osel tsel rest, s.pending = .powerOnReset osel tsel :: rest ∧
      t = onPowerOnReset osel tsel { s with pending := rest } := by
  unfold Machine.step at h
  split at h
  · exact .inl (Host.Outcome.next.inj h ▸ hs)
  · rename_i i rest hpending
    by_cases hi : ∃ osel tsel, i = .powerOnReset osel tsel
    · obtain ⟨osel, tsel, rfl⟩ := hi
      exact .inr ⟨osel, tsel, rest, hpending, (Host.Outcome.next.inj h).symm⟩
    · exact .inl (law.exec (s := { s with pending := rest }) (fun osel tsel e => hi ⟨osel, tsel, e⟩)
        (law.same hs rfl) h)

/-- When power-on reset establishes the law, every step keeps it. -/
theorem step_of_powerOn (powerOn : ∀ osel tsel s, P (onPowerOnReset osel tsel s)) (hs : P s)
    (h : Machine.step s = .next t) : P t := by
  rcases law.step hs h with ht | ⟨osel, tsel, rest, -, rfl⟩
  · exact ht
  · exact powerOn osel tsel _

end KeptBySetting

end Sys2Proof.Machine
end

section
/-! ### TIMING and LOCK (R154, R155) -/

namespace Sys2Proof.Machine

variable {s : State}

/-- Nothing but a power-on reset clears the timing lock (R155). -/
theorem timingLock_keptBySetting : KeptBySetting fun s => s.timingLock = true := by
  intro s t h hs
  have unchanged : t.settings.locked = s.settings.locked → t.timingLock = true := fun e => e.trans hs
  cases h with
  | locks h => exact congrArg Settings.locked h
  | kept h | named _ _ _ _ _ _ h | edited _ _ _ _ _ h | blinks _ _ h | placed _ _ _ h | timed _ _ h
  | claimed _ _ _ h | released _ _ _ _ h | frame h => exact unchanged (by rw [h])

/-- The height TIMING takes, by the three ranges of its argument (R154). -/
theorem cellHeight_eq (height : Nat) :
    cellHeight height = if height < 8 then 8 else if 16 < height then 16 else height := by
  unfold cellHeight
  split_ifs <;> omega

/-- Settles O49: TIMING under the lock is refused and else its one event, as LOCK is, and the lock is a law of
the settings that power-on reset alone breaks. -/
theorem timingAndItsLock : Obligations.TimingAndItsLock := by
  refine ⟨fun s x preset height hw hfree => ?_, fun s x hfree => ?_, fun s t locked h => ?_⟩
  · rw [← cellHeight_eq]
    split
    · rename_i locked
      exact exec_of_refusal rfl hw hfree (if_pos locked)
    · rename_i unlocked
      exact exec_of_one_event rfl hw hfree rfl (if_neg unlocked) rfl rfl
  · exact exec_of_one_event (c := .lock) (t := { s.delivered x .lock with timingLock := true })
      rfl rfl hfree rfl rfl rfl rfl
  · rcases timingLock_keptBySetting.step locked h with kept | ⟨osel, tsel, rest, pending, -⟩
    · exact .inl kept
    · exact .inr ⟨osel, tsel, rest, pending⟩

end Sys2Proof.Machine
end

section
/-! ### The slots, the cursor, the blink timer and both timings at every step (R116, R120, R136, R137,
R140-R145, R147) -/

namespace Sys2Proof.Machine

variable {s t : State}

/-! #### The slots (R116, R120) -/

/-- The law of the slots is about the slots alone. -/
theorem State.SlotLaw.congr (hs : s.SlotLaw) (h : t.slots = s.slots) : t.SlotLaw := by
  unfold State.SlotLaw
  rwa [h]

/-- Slots that keep their codes, none of them newly enabled, keep the law. -/
theorem State.SlotLaw.of_codes (hs : s.SlotLaw)
    (h : ∀ i : Fin 8, t.slots[i].code = s.slots[i].code ∧
      (t.slots[i].enabled = true → s.slots[i].enabled = true)) : t.SlotLaw := by
  obtain ⟨rom, apart⟩ := hs
  refine ⟨fun i => ?_, fun i j hij hi hj => ?_⟩
  · rw [(h i).1]
    exact rom i
  · rw [(h i).1, (h j).1]
    exact apart i j hij ((h i).2 hi) ((h j).2 hj)

/-- A slot named for a ROM code whose rivals are disabled keeps the law (R120, R122). -/
theorem State.SlotLaw.named (hs : s.SlotLaw) {k : Nat} (hk : k < 8) {g : Slot → Slot} {code : Code}
    (rom : code.val < 384) (names : ∀ r, (g r).code = code)
    (h : t.slots = (disableRivals s.slots k code).set k (g s.slots[k]) hk) : t.SlotLaw := by
  obtain ⟨roms, apart⟩ := hs
  have slot : ∀ i : Fin 8, t.slots[i] = if i.val = k then g s.slots[i]
      else if s.slots[i].code = code then { s.slots[i] with enabled := false } else s.slots[i] :=
    fun i => by rw [h, getElem_disableRivals_set]
  have new : ∀ i : Fin 8, i.val = k → t.slots[i].code = code := fun i hi => by
    rw [slot, if_pos hi, names]
  have old : ∀ i : Fin 8, i.val ≠ k → t.slots[i].code = s.slots[i].code ∧
      (t.slots[i].enabled = true → s.slots[i].enabled = true ∧ s.slots[i].code ≠ code) := fun i hi => by
    rw [slot, if_neg hi]
    split
    · exact ⟨rfl, fun off => nomatch off⟩
    · rename_i differs
      exact ⟨rfl, fun on => ⟨on, differs⟩⟩
  refine ⟨fun i => ?_, fun i j hij hi hj => ?_⟩
  · by_cases hik : i.val = k
    · rwa [new i hik]
    · rw [(old i hik).1]
      exact roms i
  · by_cases hik : i.val = k <;> by_cases hjk : j.val = k
    · exact absurd (Fin.ext (hik.trans hjk.symm)) hij
    · obtain ⟨same, on⟩ := old j hjk
      rw [new i hik, same]
      exact (on hj).2.symm
    · obtain ⟨same, on⟩ := old i hik
      rw [new j hjk, same]
      exact (on hi).2
    · obtain ⟨sameI, onI⟩ := old i hik
      obtain ⟨sameJ, onJ⟩ := old j hjk
      rw [sameI, sameJ]
      exact apart i j hij (onI hi).1 (onJ hj).1

theorem slotLaw_keptBySetting : KeptBySetting State.SlotLaw := by
  intro s t h hs
  cases h with
  | named k hk g code rom names h => exact hs.named hk rom names (congrArg Settings.slots h)
  | edited k hk g code enabled h =>
    have slots : t.slots = s.slots.set k (g s.slots[k]) hk := congrArg Settings.slots h
    refine hs.of_codes fun i => ?_
    rw [slots, getElem_slots_set]
    split
    · exact ⟨code _, enabled _⟩
    · exact ⟨rfl, id⟩
  | kept h | blinks _ _ h | placed _ _ _ h | timed _ _ h | locks h | claimed _ _ _ h
  | released _ _ _ _ h | frame h =>
    have slots : t.settings.slots = s.settings.slots := by rw [h]
    exact hs.congr slots

theorem onPowerOnReset_slotLaw (osel tsel : Fin 4) (s : State) : (onPowerOnReset osel tsel s).SlotLaw :=
  ⟨fun i => by simp [onPowerOnReset, State.reset],
    fun i j _ hi => by simp [onPowerOnReset, State.reset] at hi⟩

/-! #### The cursor (R140-R145) -/

/-- The cursor left where it is keeps the law, when its holder's pane keeps its owner. -/
theorem State.CursorLaw.of_stays (hs : s.CursorLaw) (cursor : t.cursor = s.cursor)
    (holder : t.holder = s.holder)
    (owner : s.cursor.mode ≠ .off →
      (t.pane s.cursor.pane).owner = (s.pane s.cursor.pane).owner) : t.CursorLaw := by
  obtain ⟨off, owns⟩ := hs
  unfold State.CursorLaw
  rw [cursor, holder]
  refine ⟨off, fun x hx => ?_⟩
  have on : s.cursor.mode ≠ .off := fun e => by simp [off.mp e] at hx
  rw [owner on]
  exact owns x hx

/-- A cursor that is OFF and held by nobody keeps the law. -/
theorem State.CursorLaw.of_off (mode : s.cursor.mode = .off) (holder : s.holder = none) : s.CursorLaw :=
  ⟨iff_of_true mode holder, fun x hx => by simp [holder] at hx⟩

theorem cursorLaw_keptBySetting : KeptBySetting State.CursorLaw := by
  intro s t h hs
  have stays : t.settings.cursor = s.settings.cursor → t.settings.holder = s.settings.holder →
      t.settings.owner = s.settings.owner → t.CursorLaw := fun cursor holder owner =>
    hs.of_stays cursor holder fun _ => congrFun owner s.cursor.pane
  cases h with
  | placed x c owner h =>
    have cursor : t.cursor = c := congrArg Settings.cursor h
    have holder : t.holder = if c.mode = .off then none else some x := congrArg Settings.holder h
    have owners : (t.pane c.pane).owner = (s.pane c.pane).owner :=
      congrFun (congrArg Settings.owner h) c.pane
    by_cases off : c.mode = .off
    · exact .of_off (cursor ▸ off) (holder.trans (if_pos off))
    · rw [if_neg off] at holder
      unfold State.CursorLaw
      rw [cursor, holder, owners, owner]
      exact ⟨iff_of_false off (Option.some_ne_none x), fun _ => id⟩
  | claimed x p free h =>
    refine hs.of_stays (congrArg Settings.cursor h) (congrArg Settings.holder h) fun on => ?_
    obtain ⟨off, owns⟩ := hs
    obtain ⟨y, hy⟩ := Option.ne_none_iff_exists'.mp fun e => on (off.mpr e)
    have elsewhere : s.cursor.pane ≠ p := fun e => by
      have owned := owns y hy
      rw [e, free] at owned
      exact nomatch owned
    exact (congrFun (congrArg Settings.owner h) s.cursor.pane).trans (Function.update_of_ne elsewhere _ _)
  | released owner cursor holder stands h =>
    have cursorEq : t.cursor = cursor := congrArg Settings.cursor h
    have holderEq : t.holder = holder := congrArg Settings.holder h
    rcases stands with ⟨mode, nobody⟩ | ⟨sameCursor, sameHolder, owned⟩
    · exact .of_off (cursorEq ▸ mode) (holderEq.trans nobody)
    · exact hs.of_stays (cursorEq.trans sameCursor) (holderEq.trans sameHolder) fun on =>
        (congrFun (congrArg Settings.owner h) s.cursor.pane).trans (owned on)
  | kept h | named _ _ _ _ _ _ h | edited _ _ _ _ _ h | blinks _ _ h | timed _ _ h | locks h | frame h =>
    exact stays (by rw [h]) (by rw [h]) (by rw [h])

theorem onPowerOnReset_cursorLaw (osel tsel : Fin 4) (s : State) :
    (onPowerOnReset osel tsel s).CursorLaw := .of_off rfl rfl

/-! #### The blink timer and both timings (R136, R137, R147) -/

/-- The ranges of the blink timer (R136, R137). -/
def BlinkTimer.Legal (b : BlinkTimer) : Prop :=
  EvenPeriod b.latch ∧ (∀ n ∈ b.pending, EvenPeriod n) ∧ b.counter < b.latch / 2

/-- A height that the part can show (R147). -/
def Timing.Legal (k : Timing) : Prop := 8 ≤ k.height ∧ k.height ≤ 16

theorem State.timerLaw_iff :
    s.TimerLaw ↔ s.blink.Legal ∧ s.timing.Legal ∧ s.shownTiming.Legal := by
  simp only [State.TimerLaw, BlinkTimer.Legal, Timing.Legal, and_assoc]

/-- The timer's own action at a frame start: it counts on below half the period, or toggles with the pending
period as its latch (R137). -/
theorem BlinkTimer.Legal.frame {b : BlinkTimer} (h : b.Legal) : b.frame.Legal := by
  obtain ⟨latch, pending, counter⟩ := h
  by_cases last : b.counter + 1 = b.latch / 2
  · rw [BlinkTimer.frame_last last]
    have next : EvenPeriod (b.pending.getD b.latch) := by
      cases hp : b.pending with
      | none => exact latch
      | some n => exact pending n hp
    refine ⟨next, fun n hn => absurd hn (Option.not_mem_none n), ?_⟩
    obtain ⟨two_le, -, -⟩ := next
    show 0 < b.pending.getD b.latch / 2
    omega
  · rw [BlinkTimer.frame_early last]
    exact ⟨latch, pending, by show b.counter + 1 < b.latch / 2; omega⟩

theorem timerLaw_keptBySetting : KeptBySetting State.TimerLaw := by
  intro s t h hs
  obtain ⟨blink, timing, shown⟩ := State.timerLaw_iff.mp hs
  refine State.timerLaw_iff.mpr ?_
  suffices t.settings.blink.Legal ∧ t.settings.timing.Legal ∧ t.settings.shownTiming.Legal from this
  cases h with
  | blinks n even h =>
    obtain ⟨latch, -, counter⟩ := blink
    rw [h]
    exact ⟨⟨latch, fun m hm => Option.mem_some_iff.mp hm ▸ even, counter⟩, timing, shown⟩
  | timed k height h => rw [h]; exact ⟨blink, height, shown⟩
  | frame h => rw [h]; exact ⟨blink.frame, timing, timing⟩
  | kept h | named _ _ _ _ _ _ h | edited _ _ _ _ _ h | placed _ _ _ h | locks h | claimed _ _ _ h
  | released _ _ _ _ h => rw [h]; exact ⟨blink, timing, shown⟩

theorem onPowerOnReset_timerLaw (osel tsel : Fin 4) (s : State) :
    (onPowerOnReset osel tsel s).TimerLaw := by
  have period : EvenPeriod 32 := by decide
  have early : 0 < 32 / 2 := by decide
  have height : 8 ≤ 16 ∧ 16 ≤ 16 := by decide
  exact State.timerLaw_iff.mpr
    ⟨⟨period, fun n hn => absurd hn (Option.not_mem_none n), early⟩, height, height⟩

/-! #### Pictures, and all the laws -/

/-- A step keeps the law of pictures, as its event does (R166, R169, R171). -/
theorem step_pictureLaw (h : step s = .next t) : s.PictureLaw t :=
  step_keeps (P := s.PictureLaw) (fun _ _ _ hu hexec => hu.trans (exec_pictureLaw hexec))
    (fun _ _ hu => hu) (.refl s) h

/-- Settles O57: the first three are laws of the settings that power-on reset establishes, and the law of
pictures is kept by every event. -/
theorem stepKeepsTheSettings : Obligations.StepKeepsTheSettings :=
  ⟨fun _ _ hs h => slotLaw_keptBySetting.step_of_powerOn onPowerOnReset_slotLaw hs h,
    fun _ _ hs h => cursorLaw_keptBySetting.step_of_powerOn onPowerOnReset_cursorLaw hs h,
    fun _ _ hs h => timerLaw_keptBySetting.step_of_powerOn onPowerOnReset_timerLaw hs h,
    fun _ _ h => step_pictureLaw h⟩

end Sys2Proof.Machine
end

section
/-! ### Words of good parity (R173) -/

namespace Sys2Proof

/-- The contents of a word are its bits 14-0. -/
theorem field_contents (w : Word) : field w 0 15 = w.toNat % 2 ^ 15 := by
  rw [field, Nat.pow_zero, Nat.div_one]

/-- Counting the ones of bits 14-0, the contents of a word do for the word. -/
theorem onesBelow_contents (w : Word) : onesBelow 15 (field w 0 15) = onesBelow 15 w.toNat :=
  onesBelow_congr fun i hi => by
    rw [field_contents, Nat.testBit_mod_two_pow, decide_eq_true hi, Bool.true_and]

/-- In a word of good parity bit 15 makes up for an even count of ones below it. -/
theorem testBit_of_parityGood {w : Word} (h : parityGood w = true) :
    w.toNat.testBit 15 = decide (onesBelow 15 w.toNat % 2 ≠ 1) := by
  rw [parityGood, onesBelow_succ, decide_eq_true_eq] at h
  cases hbit : w.toNat.testBit 15 <;> rw [hbit] at h
  case false => simpa using h
  case true =>
    have even : (onesBelow 15 w.toNat + 1) % 2 = 1 := by simpa using h
    exact (decide_eq_true (by omega)).symm

/-- A word of good parity is made from its contents. -/
theorem mkWord_contents {w : Word} (h : parityGood w = true) : mkWord (field w 0 15) = w := by
  have ones := onesBelow_contents w
  have bit := testBit_of_parityGood h
  have hlt := w.isLt
  have low := field_contents w
  rw [Nat.testBit_eq_decide_div_mod_eq, decide_eq_decide] at bit
  refine BitVec.eq_of_toNat_eq ?_
  rw [mkWord, BitVec.toNat_ofNat, ones, low]
  split <;> omega

/-- Settles O20: bit 15 makes the count of ones odd, and the contents and the parity leave no other word. -/
theorem parityBitMakesTheOnesOdd : Obligations.ParityBitMakesTheOnesOdd :=
  ⟨fun n => ⟨parityGood_mkWord n, field_mkWord_low n 15 (by omega)⟩, fun _ h => mkWord_contents h⟩

end Sys2Proof
end

section
/-! ### SDO_x and the falling edge (R172, R174, R189) -/

namespace Sys2Proof.Machine

variable {s : State} {x : Port}

/-- Bits are presented most significant first (R173). -/
theorem getMsbD_word (w : Word) (k : Fin 16) : w.getMsbD k.val = w.getLsbD (15 - k.val) := by
  simp [BitVec.getMsbD, k.isLt]

/-- A line that is high, or a port that is not ready, leaves SDO_x high-impedance (R172, R189). -/
theorem State.sdo_none (h : (s.port x).selLow = false ∨ s.ready x = false) (k : Fin 16) :
    s.sdo x k = none := by
  rcases h with high | deaf
  · simp [State.sdo, high]
  · simp [State.sdo, deaf]

/-- In a transfer SDO_x carries the out word (R172, R173). -/
theorem State.sdo_open {o : OpenTransfer} (low : (s.port x).selLow = true) (hr : s.ready x = true)
    (ho : (s.port x).openT = some o) (k : Fin 16) :
    s.sdo x k = some (o.outWord.getLsbD (15 - k.val)) := by
  simp [State.sdo, low, hr, ho, getMsbD_word]

/-- A line that is low already has no falling edge (log 4). -/
theorem onTransferStart_low (low : (s.port x).selLow = true) : onTransferStart x s = s := by
  simp only [onTransferStart, low, if_true]

/-- The falling edge on a ready port (R174). -/
theorem onTransferStart_ready (high : (s.port x).selLow = false) (hr : s.ready x = true) :
    onTransferStart x s = s.setPort x ((s.port x).opened (s.statusA x) (s.statusB x)) := by
  simp only [onTransferStart, high, hr, if_true, if_false, Bool.false_eq_true]
  rfl

/-- The falling edge on a port that is not ready (R189). -/
theorem onTransferStart_deaf (high : (s.port x).selLow = false) (hr : s.ready x = false) :
    onTransferStart x s = s.setPort x { s.port x with selLow := true } := by
  simp only [onTransferStart, high, hr, if_false, Bool.false_eq_true]

/-- SDO_x carries status word A after the falling edge on a ready port, and nothing on another (R174,
R189). -/
theorem State.sdo_onTransferStart (high : (s.port x).selLow = false) (k : Fin 16) :
    (onTransferStart x s).sdo x k =
      if s.ready x then some ((s.statusA x).getLsbD (15 - k.val)) else none := by
  cases hr : s.ready x with
  | true =>
    rw [onTransferStart_ready high hr]
    refine State.sdo_open (o := .begun (s.statusA x) (s.statusB x)) ?_ ?_ ?_ k
    · rw [State.port_setPort_same]
      rfl
    · exact (s.ready_setPort x (p := (s.port x).opened _ _) rfl).trans hr
    · rw [State.port_setPort_same]
      rfl
  | false =>
    rw [onTransferStart_deaf high hr]
    refine State.sdo_none (.inr ?_) k
    exact (s.ready_setPort x (p := { s.port x with selLow := true }) rfl).trans hr

/-- Settles O12: the line is low already, or falls on a port that is ready or is not. -/
theorem transferStartOpensATransfer : Obligations.TransferStartOpensATransfer := by
  intro s x
  refine ⟨fun high => ⟨_, rfl, State.sdo_onTransferStart high⟩, State.sdo_none,
    congrArg Host.Outcome.next ?_⟩
  cases hlow : (s.port x).selLow with
  | true => exact onTransferStart_low hlow
  | false =>
    cases hr : s.ready x with
    | true => exact onTransferStart_ready hlow hr
    | false => exact onTransferStart_deaf hlow hr

end Sys2Proof.Machine
end

section
/-! ### A service transfer of one word (R175, R178, R182, R185, R198) -/

namespace Sys2Proof.Machine

variable {s : State} {x : Port} {h : Word} {p : PortState} {ws : List Word}

/-! #### From the falling edge to the rising one -/

/-- The header of a service transfer that shifts no reply word is held and counted, and status word B is
next (R174, R175). -/
theorem PortState.sampled_header (P : PortState) (a b : Word) (hparity : parityGood h = true)
    (hservice : isService (headerCode h) = true) :
    (P.opened a b).sampled h = { P.opened a b with
      sent := [a]
      openT := some { OpenTransfer.begun a b with
        header := some h, destination := some .assembler, words := 1, heldWords := [h]
        outWord := b } } := by
  have hread := OpenTransfer.read_first (o := .begun a b) (w := h) rfl
  rw [PortState.sampled_service (o := .begun a b) rfl rfl (by simp [hread, hservice]) (by rw [hread]) rfl rfl,
    hread]
  simp [PortState.opened, OpenTransfer.begun, hparity, hservice]

/-- A good service transfer of one word is taken at its end, and the arbiter then searches (R178, R91). -/
theorem sendWords_header (hs : s.ServedLaw) (hr : s.ready x = true) (hhigh : (s.port x).selLow = false)
    (hparity : parityGood h = true) (hservice : isService (headerCode h) = true)
    (hcount : countAllowed (headerCode h) 1 = true)
    (hp : p = { s.port x with openT := none, sent := [s.statusA x], sentBits := [] }) :
    sendWords x [h] s =
      (s.setPort x (p.takeService (decide (s.clock = .locked)) (headerCode h) [h])).arbitrate := by
  have run := (s.port x).sampled_header (s.statusA x) (s.statusB x) hparity hservice
  have quiet : ∀ k, (s.setPort x (([h].take k).foldl (fun p w => p.sampled w)
      ((s.port x).opened (s.statusA x) (s.statusB x)))).arbiterPick = none := fun k => by
    refine PortState.Quieter.arbiterPick ?_ hs
    cases k with
    | zero => exact ⟨.inl rfl, id, rfl, Nat.le_refl _⟩
    | succ k =>
      rw [List.take_succ_cons, List.take_nil, List.foldl_cons, List.foldl_nil, run]
      exact ⟨.inl rfl, id, rfl, Nat.le_refl _⟩
  refine sendWords_quiet hr hhigh quiet run rfl rfl ?_
  rw [PortState.endTransfer_service _ rfl
    (by rw [OpenTransfer.linkFlags_eq]; simp [OpenTransfer.begun, hcount]) rfl rfl, hp, ← hhigh]
  rfl

/-! #### FAULTS and IDENT -/

/-- Words are appended when they find room, present words and reserved places counted (R181, R182). -/
theorem PortState.appendService_eq (p : PortState) (hne : ws ≠ []) :
    p.appendService ws = if p.reply.length + p.reserved + ws.length ≤ 64 then
      { p with reply := p.reply ++ ws } else p.linkFault [.overrun] := by
  have pos := List.length_pos_iff.mpr hne
  have room : p.room = 64 - (p.reply.length + p.reserved) := rfl
  have fits : ws.length ≤ p.room ↔ p.reply.length + p.reserved + ws.length ≤ 64 := by omega
  simp only [PortState.appendService, fits]

/-- Neither reply words nor their OVERRUN make a port more eligible (R88, R195). -/
theorem PortState.Quieter.appendService {P : PortState} (hp : p.Quieter P) (ws : List Word) :
    (p.appendService ws).Quieter P := by
  unfold PortState.appendService
  split
  · refine ⟨hp.queue, hp.running, hp.waiting, Nat.le_trans ?_ hp.room⟩
    simp only [PortState.room, List.length_append]
    omega
  · exact hp.linkFault _

/-- A service transfer of one word that is taken by appending the words `ws`, or dropped with OVERRUN
(R182). -/
theorem sendWords_appends {code : Nat} (hs : s.ServedLaw) (hr : s.ready x = true)
    (hhigh : (s.port x).selLow = false)
    (hp : p = { s.port x with openT := none, sent := [s.statusA x], sentBits := [] })
    (hcode : code < 64) (hservice : isService code = true) (hcount : countAllowed code 1 = true)
    (hne : ws ≠ []) (taken : ∀ locked held, p.takeService locked code held = p.appendService ws) :
    sendWords x [mkWord (header code 0 0)] s = s.setPort x
      (if p.reply.length + p.reserved + ws.length ≤ 64 then { p with reply := p.reply ++ ws }
      else p.linkFault [.overrun]) := by
  have named : headerCode (mkWord (header code 0 0)) = code := by
    rw [headerCode_mkWord_header, Nat.mod_eq_of_lt hcode]
  have serial : p.Quieter (s.port x) := by
    rw [hp]
    exact ⟨.inl rfl, id, rfl, Nat.le_refl _⟩
  rw [sendWords_header hs hr hhigh (parityGood_mkWord _) (by rw [named, hservice])
    (by rw [named, hcount]) hp, named, taken,
    State.arbitrate_of_none ((serial.appendService ws).arbiterPick hs), PortState.appendService_eq p hne]

/-- Settles O18: both are taken by appending their words, the record's three and the identity's four. -/
theorem faultsAndIdentReply : Obligations.FaultsAndIdentReply := by
  intro s x p hs hr hhigh hp
  have faults := sendWords_appends (code := 2) (ws := p.faults.words) hs hr hhigh hp (by decide)
    (by decide) (by decide) (List.cons_ne_nil _ _) fun _ _ => rfl
  have ident := sendWords_appends (code := 5) (ws := identWords) hs hr hhigh hp (by decide)
    (by decide) (by decide) (List.cons_ne_nil _ _) fun _ _ => rfl
  exact ⟨congrArg Host.Outcome.next faults, congrArg Host.Outcome.next ident⟩

end Sys2Proof.Machine
end

section
/-! ### CLEAR and MODE (R186, R199, R200, R207) -/

namespace Sys2Proof.Machine

variable {s : State} {x : Port} {h w : Word} {p : PortState}

/-! #### A service transfer of two words (R174, R175, R178) -/

/-- The argument word of a service transfer is held beside its header, and fillers are next. -/
theorem PortState.sampled_argument (P : PortState) (a b : Word) (hparity : parityGood h = true)
    (hservice : isService (headerCode h) = true) (hcode : headerCode h ≠ 1)
    (wparity : parityGood w = true) :
    ((P.opened a b).sampled h).sampled w = { P.opened a b with
      sent := [a, b]
      openT := some { OpenTransfer.begun a b with
        header := some h, destination := some .assembler, words := 2, heldWords := [h, w]
        outWord := fillerWord } } := by
  rw [P.sampled_header a b hparity hservice,
    PortState.sampled_service (h := h) rfl rfl (by rw [OpenTransfer.read_later rfl])
      (by rw [OpenTransfer.read_later rfl]) rfl rfl, OpenTransfer.read_later rfl]
  simp [OpenTransfer.begun, PortState.opened, hcode, wparity]

/-- A good service transfer of a header and an argument is taken at its end, and the arbiter then searches
(R178, R91). -/
theorem sendWords_argument (hs : s.ServedLaw) (hr : s.ready x = true) (hhigh : (s.port x).selLow = false)
    (hparity : parityGood h = true) (hservice : isService (headerCode h) = true)
    (hcode : headerCode h ≠ 1) (wparity : parityGood w = true)
    (hcount : countAllowed (headerCode h) 2 = true)
    (hp : p = { s.port x with
      openT := none, sent := [s.statusA x, s.statusB x], sentBits := [] }) :
    sendWords x [h, w] s =
      (s.setPort x (p.takeService (decide (s.clock = .locked)) (headerCode h) [h, w])).arbitrate := by
  have first := (s.port x).sampled_header (s.statusA x) (s.statusB x) hparity hservice
  have run := (s.port x).sampled_argument (s.statusA x) (s.statusB x) hparity hservice hcode wparity
  have quiet : ∀ k, (s.setPort x (([h, w].take k).foldl (fun p w => p.sampled w)
      ((s.port x).opened (s.statusA x) (s.statusB x)))).arbiterPick = none := fun k => by
    refine PortState.Quieter.arbiterPick ?_ hs
    match k with
    | 0 => exact ⟨.inl rfl, id, rfl, Nat.le_refl _⟩
    | 1 =>
      show (((s.port x).opened _ _).sampled h).Quieter _
      rw [first]
      exact ⟨.inl rfl, id, rfl, Nat.le_refl _⟩
    | k + 2 =>
      rw [List.take_of_length_le (by simp)]
      show ((((s.port x).opened _ _).sampled h).sampled w).Quieter _
      rw [run]
      exact ⟨.inl rfl, id, rfl, Nat.le_refl _⟩
  refine sendWords_quiet hr hhigh quiet run rfl rfl ?_
  rw [PortState.endTransfer_service _ rfl
    (by rw [OpenTransfer.linkFlags_eq]; simp [OpenTransfer.begun, hcount]) rfl rfl, hp, ← hhigh]
  rfl

/-! #### What MODE sets -/

/-- The five modes in the order of their numbers (R209). -/
theorem modeOfNumber_eq (n : Nat) :
    modeOfNumber n = [FaultMode.ignore, .report, .resumeFast, .resumeSlow, .latch][n]? := by
  match n with
  | 0 | 1 | 2 | 3 | 4 | _ + 5 => rfl

/-- MODE sets no more than the two modes of the record (R200). -/
theorem PortState.setMode_frame (p : PortState) (cls newMode : Nat) :
    ∃ link refuse, p.setMode cls newMode =
      { p with faults := { p.faults with linkMode := link, refuseMode := refuse } } := by
  unfold PortState.setMode
  split
  · exact ⟨_, _, rfl⟩
  · split
    · exact ⟨_, _, rfl⟩
    · split
      · exact ⟨_, _, rfl⟩
      · exact ⟨_, _, rfl⟩

/-- The modes have no part in what the arbiter asks of a port (R88). -/
theorem PortState.Quieter.setMode {P : PortState} (hp : p.Quieter P) (cls newMode : Nat) :
    (p.setMode cls newMode).Quieter P := by
  obtain ⟨link, refuse, e⟩ := p.setMode_frame cls newMode
  rw [e]
  exact ⟨hp.queue, hp.running, hp.waiting, hp.room⟩

/-- The class and the mode come back from the argument word of MODE (R207). -/
theorem field_modeArgument (cls : Fin 4) (m : Fin 8) :
    field (mkWord (cls.val * 16 + m.val)) 4 2 = cls.val ∧
      field (mkWord (cls.val * 16 + m.val)) 0 3 = m.val := by
  rw [field_mkWord _ _ _ (by omega), field_mkWord _ _ _ (by omega)]
  omega

/-! #### The two rows -/

/-- CLEAR, once its transfer is over (R199). -/
theorem sendWords_clear (hs : s.ServedLaw) (hr : s.ready x = true) (hhigh : (s.port x).selLow = false)
    (hp : p = { s.port x with openT := none, sent := [s.statusA x], sentBits := [] }) :
    sendWords x [mkWord (header 3 0 0)] s =
      (s.setPort x (p.clearFaults (decide (s.clock = .locked)))).arbitrate := by
  have named : headerCode (mkWord (header 3 0 0)) = 3 := headerCode_mkWord_header 3 0 0
  rw [sendWords_header hs hr hhigh (parityGood_mkWord _) (by rw [named]; rfl) (by rw [named]; rfl) hp,
    named]
  rfl

/-- MODE, once its transfer is over; nobody is granted by it (R200). -/
theorem sendWords_mode (hs : s.ServedLaw) (hr : s.ready x = true) (hhigh : (s.port x).selLow = false)
    (hp : p = { s.port x with
      openT := none, sent := [s.statusA x, s.statusB x], sentBits := [] }) (cls : Fin 4) (m : Fin 8) :
    sendWords x (modeWords cls m) s = s.setPort x (p.setMode cls.val m.val) := by
  have named : headerCode (mkWord (header 4 0 0)) = 4 := headerCode_mkWord_header 4 0 0
  obtain ⟨clsField, modeField⟩ := field_modeArgument cls m
  have taken : p.takeService (decide (s.clock = .locked)) 4
      [mkWord (header 4 0 0), mkWord (cls.val * 16 + m.val)] = p.setMode cls.val m.val := by
    show p.setMode (field (mkWord (cls.val * 16 + m.val)) 4 2)
      (field (mkWord (cls.val * 16 + m.val)) 0 3) = _
    rw [clsField, modeField]
  have serial : p.Quieter (s.port x) := by
    rw [hp]
    exact ⟨.inl rfl, id, rfl, Nat.le_refl _⟩
  rw [modeWords, sendWords_argument hs hr hhigh (parityGood_mkWord _) (by rw [named]; rfl)
    (by rw [named]; decide) (parityGood_mkWord _) (by rw [named]; rfl) hp, named, taken,
    State.arbitrate_of_none ((serial.setMode _ _).arbiterPick hs)]

/-- Settles O19: each row leaves what its transfer leaves, and a class or a mode without a name leaves the
record. -/
theorem clearAndModeChangeTheRecord : Obligations.ClearAndModeChangeTheRecord := by
  intro s x p r hs hr hhigh hrec
  subst hrec
  refine ⟨fun hp => congrArg Host.Outcome.next ?_,
    fun hp cls m mode hmode => congrArg Host.Outcome.next ?_⟩
  · rw [sendWords_clear hs hr hhigh hp]
    simp [PortState.clearFaults, hp]
  · rw [sendWords_mode hs hr hhigh hp, PortState.setMode, modeOfNumber_eq, ← hmode]
    cases mode with
    | none => rfl
    | some fm =>
      have faults : p.faults = (s.port x).faults := by rw [hp]
      simp only [faults, Fin.ext_iff]
      rfl

end Sys2Proof.Machine
end

section
/-! ### The words of a command, both ways (R206-R210) -/

namespace Sys2Proof

/-- Every command is the whole transfer of some row of the table, so that what is proved row by row holds
of every command. -/
theorem exists_instr_command (x : Port) : ∀ c : Command, ∃ i : Instr, i.command = some (x, c)
  | .define p g => ⟨.define x p g, rfl⟩
  | .showPane p => ⟨.showPane x p, rfl⟩
  | .hidePane p => ⟨.hidePane x p, rfl⟩
  | .dropPane p => ⟨.dropPane x p, rfl⟩
  | .claim p => ⟨.claim x p, rfl⟩
  | .release p => ⟨.release x p, rfl⟩
  | .raise p => ⟨.raise x p, rfl⟩
  | .lower p => ⟨.lower x p, rfl⟩
  | .behind p q => ⟨.behind x p q, rfl⟩
  | .setTop p top fine => ⟨.setTop x p top fine, rfl⟩
  | .roll p k clear => ⟨.roll x p k clear, rfl⟩
  | .log p attr codes => ⟨.log x p attr codes, rfl⟩
  | .place p row col attr codes => ⟨.place x p row col attr codes, rfl⟩
  | .sweep p row col w h code attr override => ⟨.sweep x p row col w h code attr override, rfl⟩
  | .shift p srow scol drow dcol w h => ⟨.shift x p srow scol drow dcol w h, rfl⟩
  | .tint p row col w h attr mask => ⟨.tint x p row col w h attr mask, rfl⟩
  | .tick p row col codes digit arrow => ⟨.tick x p row col codes digit arrow, rfl⟩
  | .readCells p row col n => ⟨.readCells x p row col n, rfl⟩
  | .wait => ⟨.wait x, rfl⟩
  | .glyph code rows => ⟨.glyph x code rows, rfl⟩
  | .patch slot code rows => ⟨.patch x slot code rows, rfl⟩
  | .patchRows slot rows => ⟨.patchRows x slot rows, rfl⟩
  | .patchCode slot code => ⟨.patchCode x slot code, rfl⟩
  | .unpatch slot => ⟨.unpatch x slot, rfl⟩
  | .readGlyph slotOption slot code => ⟨.readGlyph x slotOption slot code, rfl⟩
  | .palette i r g b => ⟨.palette x i r g b, rfl⟩
  | .ramp dir stage fg bg duration count => ⟨.ramp x dir stage fg bg duration count, rfl⟩
  | .staleColour i => ⟨.staleColour x i, rfl⟩
  | .blink period => ⟨.blink x period, rfl⟩
  | .cursor p row col startScan endScan mode => ⟨.cursor x p row col startScan endScan mode, rfl⟩
  | .timing preset height => ⟨.timing x preset height, rfl⟩
  | .lock => ⟨.lock x, rfl⟩

/-- Settles O26: the command is that of a row, whose transfer is framed well and whose arguments read back
their operands; the port does not come into it. -/
theorem decodeInvertsEncode : Obligations.DecodeInvertsEncode := by
  intro c hw
  obtain ⟨i, hi⟩ := exists_instr_command .a c
  exact decodeCommand_encodeCommand hi hw

end Sys2Proof
end

section
/-! ### The step: the front event on the rest of the queue, or idling (log 3) -/

namespace Sys2Proof.Machine

variable {s : State}

theorem step_of_pending_cons {i : Instr} {rest : List Instr} (h : s.pending = i :: rest) :
    step s = exec i { s with pending := rest } := by
  unfold step
  rw [h]

theorem step_of_pending_nil (h : s.pending = []) : step s = .next s := by
  unfold step
  rw [h]

/-- Settles O1, from the equations of `step`: taking an event off the front of a queue it was just put on
gives back the state it was put on. -/
theorem stepTakesTheFrontEvent : Obligations.StepTakesTheFrontEvent := by
  refine ⟨fun i s => ?front, fun s => step_of_pending_nil⟩
  case front =>
    calc step { s with pending := i :: s.pending }
      _ = exec i { s with pending := s.pending } := step_of_pending_cons rfl
      _ = exec i s := rfl

end Sys2Proof.Machine
end
